-- ==== Sys2Proof/Word.lean ====
section
/-! DEFINITION. The two widths of the core: data is 8 bits, addresses are 16 (00_scope.md R8 `XLEN`, `ALEN`, R9). -/

namespace Sys2Proof

/-- A byte, 8 bits (00_scope.md R9). Its `+` and `-` are the rules' `+_8` and `-_8`. -/
abbrev Byte := BitVec 8

/-- An address, 16 bits (00_scope.md R9). Its `+` and `-` are the rules' `+_16` and `-_16`. -/
abbrev Addr := BitVec 16

end Sys2Proof
end

