-- ==== Sys2Proof/Config.lean ====
section
/-! DEFINITION. What an implementation fixes (00_scope.md R8: the parameters of kind OPEN) and the free values.
`Config` is plain data and stands in `State` (notes/assumptions/6.md), so a statement about every state is a statement about every
configuration. The opaque constants have no body: nothing can be proved of their values. -/

namespace Sys2Proof

/-- `UNDOC_SET` (00_scope.md R8, 46_undocumented.md R240): which optional opcodes are in the table. -/
inductive UndocSet where
  /-- The 151 documented opcodes alone. -/
  | none
  /-- The 52 opcodes of `LAX SAX DCP ISC SLO RLA SRE RRA` as well. -/
  | common
deriving DecidableEq, Repr

/-- `DECIMAL_ALGO` (42_logic_arith.md R169, 92_eei_decisions.md D15). -/
inductive DecimalAlgo where
  /-- The sequences of R166 and R168 on every operand. -/
  | nmos
  /-- R169's cautious model: `A` and `C` on valid BCD operands are the exact decimal result, everything else is a free value. -/
  | cautious
deriving DecidableEq, Repr

/-- The three ROM images (10_state.md R35). -/
inductive Rom where
  | basic
  | char
  | kernal
deriving DecidableEq, Repr

/-- The kind of a bus access, as `CART.claims` receives it (20_memory.md R58). -/
inductive Access where
  | read
  | write
deriving DecidableEq, Repr

/-- A registered peripheral: the inclusive address range it answers (20_memory.md R62). -/
structure Peripheral where
  lo : Addr
  hi : Addr
deriving DecidableEq, Repr

/-- One region of the cartridge's claim function (20_memory.md R58): it claims an access at `lo..hi` while
`latch & latchMask = latchValue`, on reads if `onRead`, on writes if `onWrite`. Lists of regions express every
function of (address, latch, kind): notes/assumptions/11.md. -/
structure CartRegion where
  lo : Addr
  hi : Addr
  latchMask : Byte
  latchValue : Byte
  onRead : Bool
  onWrite : Bool
deriving DecidableEq, Repr

/-- The configuration: the parameters of the step relation (10_state.md R38, 00_scope.md R8). -/
structure Config where
  /-- `UNDOC_SET`. -/
  undoc : UndocSet
  /-- `LATCH_RMASK`: the bits of the latch that a read shows (20_memory.md R55). -/
  latchRMask : Byte
  /-- `DECIMAL_ALGO`. -/
  decimal : DecimalAlgo
  /-- `ROM_BASIC`, absent or its bytes (10_state.md R35). -/
  romBasic : Option (List Byte)
  /-- `ROM_CHAR`, absent or its bytes. -/
  romChar : Option (List Byte)
  /-- `ROM_KERNAL`, absent or its bytes. -/
  romKernal : Option (List Byte)
  /-- `PERIPHERALS`. -/
  peripherals : List Peripheral
  /-- `CART`: absent, or its claim function. -/
  cart : Option (List CartRegion)
deriving DecidableEq, Repr

/-- `LATCH_ADDR` (00_scope.md R8, 20_memory.md R55). -/
def latchAddr : Addr := 0x0001

/-- The configuration of `State.reset`: DESIGN CHOICE, notes/assumptions/6.md. -/
def Config.default : Config where
  undoc := .common
  latchRMask := 0xFF
  decimal := .nmos
  romBasic := .none
  romChar := .none
  romKernal := .none
  peripherals := []
  cart := .none

/-- A device outside the core: the cartridge, or the peripheral at this place of `PERIPHERALS` (20_memory.md R58, R62). -/
inductive Device where
  | cart
  | peripheral (index : Nat)
deriving DecidableEq, Repr

/-- Something that happens to a device: a bus access the core makes (20_memory.md R62: the full address, and the byte of a
write), or a change of its own that the environment makes between transitions (60_exceptions.md R286). -/
inductive DeviceEvent where
  | read (dev : Device) (addr : Addr)
  | write (dev : Device) (addr : Addr) (value : Byte)
  | own (change : Nat)
deriving DecidableEq, Repr

/-- The outcome of an addition or subtraction: the accumulator and the four flags it writes (42_logic_arith.md R165–R168). -/
structure AluOut where
  acc : Byte
  n : Bool
  v : Bool
  z : Bool
  c : Bool
deriving DecidableEq, Repr, Inhabited

/-- The two decimal operations (42_logic_arith.md R169: the argument `op` of `DECIMAL_ALGO`). -/
inductive DecimalOp where
  | adc
  | sbc
deriving DecidableEq, Repr

/-- What a fatal decode fault leaves unspecified (10_state.md R37): the registers, the flags as a status byte, and by how much
`cycles` has grown. -/
structure AfterFault where
  a : Byte
  x : Byte
  y : Byte
  sp : Byte
  pc : Addr
  p : Byte
  cyclesAdded : Nat
deriving DecidableEq, Repr, Inhabited

/-- FREE VALUE: the byte a device answers to a read at an address, after the events listed (20_memory.md R62; U6 of
93_implementation_defined.md: any value). notes/assumptions/5.md. -/
opaque Config.deviceByte : List DeviceEvent → Device → Addr → Byte

/-- FREE VALUE: the outputs of decimal `ADC`/`SBC` that R169 leaves open, under `DecimalAlgo.cautious`, as a function of the
operands `A`, `m`, `C`. notes/assumptions/8.md. -/
opaque Config.decimalOpen : DecimalOp → Byte → Byte → Bool → AluOut

/-- FREE VALUE: what the registers hold after the k-th fatal decode fault (10_state.md R37; U2). notes/assumptions/7.md. -/
opaque Config.afterFault : Nat → AfterFault

end Sys2Proof
end

