-- ==== Sys2Proof/Syntax.lean ====
section
/-! DEFINITION. The instructions: one constructor for each of the 203 rows of spec/opcode_table.json (30_encoding.md R107, R108;
46_undocumented.md R241–R248), named after the mnemonic and, where a mnemonic has several modes, the mode. Its argument is the
operand the format carries (R91): nothing, `d8`, or `a16`. -/

namespace Sys2Proof

/-- An instruction with its operand (30_encoding.md R91, R107). -/
inductive Instr where
  -- Load and store (40_load_store.md)
  | ldaIzx (d8 : Byte)
  | ldaZp (d8 : Byte)
  | ldaImm (d8 : Byte)
  | ldaAbs (a16 : Addr)
  | ldaIzy (d8 : Byte)
  | ldaZpx (d8 : Byte)
  | ldaAby (a16 : Addr)
  | ldaAbx (a16 : Addr)
  | ldxImm (d8 : Byte)
  | ldxZp (d8 : Byte)
  | ldxAbs (a16 : Addr)
  | ldxZpy (d8 : Byte)
  | ldxAby (a16 : Addr)
  | ldyImm (d8 : Byte)
  | ldyZp (d8 : Byte)
  | ldyAbs (a16 : Addr)
  | ldyZpx (d8 : Byte)
  | ldyAbx (a16 : Addr)
  | staIzx (d8 : Byte)
  | staZp (d8 : Byte)
  | staAbs (a16 : Addr)
  | staIzy (d8 : Byte)
  | staZpx (d8 : Byte)
  | staAby (a16 : Addr)
  | staAbx (a16 : Addr)
  | stxZp (d8 : Byte)
  | stxAbs (a16 : Addr)
  | stxZpy (d8 : Byte)
  | styZp (d8 : Byte)
  | styAbs (a16 : Addr)
  | styZpx (d8 : Byte)
  -- Register transfers and stack (41_transfer_stack.md)
  | tax
  | tay
  | txa
  | tya
  | tsx
  | txs
  | pha
  | php
  | pla
  | plp
  -- Logic, arithmetic, compare (42_logic_arith.md)
  | andIzx (d8 : Byte)
  | andZp (d8 : Byte)
  | andImm (d8 : Byte)
  | andAbs (a16 : Addr)
  | andIzy (d8 : Byte)
  | andZpx (d8 : Byte)
  | andAby (a16 : Addr)
  | andAbx (a16 : Addr)
  | oraIzx (d8 : Byte)
  | oraZp (d8 : Byte)
  | oraImm (d8 : Byte)
  | oraAbs (a16 : Addr)
  | oraIzy (d8 : Byte)
  | oraZpx (d8 : Byte)
  | oraAby (a16 : Addr)
  | oraAbx (a16 : Addr)
  | eorIzx (d8 : Byte)
  | eorZp (d8 : Byte)
  | eorImm (d8 : Byte)
  | eorAbs (a16 : Addr)
  | eorIzy (d8 : Byte)
  | eorZpx (d8 : Byte)
  | eorAby (a16 : Addr)
  | eorAbx (a16 : Addr)
  | bitZp (d8 : Byte)
  | bitAbs (a16 : Addr)
  | adcIzx (d8 : Byte)
  | adcZp (d8 : Byte)
  | adcImm (d8 : Byte)
  | adcAbs (a16 : Addr)
  | adcIzy (d8 : Byte)
  | adcZpx (d8 : Byte)
  | adcAby (a16 : Addr)
  | adcAbx (a16 : Addr)
  | sbcIzx (d8 : Byte)
  | sbcZp (d8 : Byte)
  | sbcImm (d8 : Byte)
  | sbcAbs (a16 : Addr)
  | sbcIzy (d8 : Byte)
  | sbcZpx (d8 : Byte)
  | sbcAby (a16 : Addr)
  | sbcAbx (a16 : Addr)
  | cmpIzx (d8 : Byte)
  | cmpZp (d8 : Byte)
  | cmpImm (d8 : Byte)
  | cmpAbs (a16 : Addr)
  | cmpIzy (d8 : Byte)
  | cmpZpx (d8 : Byte)
  | cmpAby (a16 : Addr)
  | cmpAbx (a16 : Addr)
  | cpxImm (d8 : Byte)
  | cpxZp (d8 : Byte)
  | cpxAbs (a16 : Addr)
  | cpyImm (d8 : Byte)
  | cpyZp (d8 : Byte)
  | cpyAbs (a16 : Addr)
  -- Increment, decrement, shift, rotate (43_incdec_shift.md)
  | incZp (d8 : Byte)
  | incAbs (a16 : Addr)
  | incZpx (d8 : Byte)
  | incAbx (a16 : Addr)
  | inx
  | iny
  | decZp (d8 : Byte)
  | decAbs (a16 : Addr)
  | decZpx (d8 : Byte)
  | decAbx (a16 : Addr)
  | dex
  | dey
  | aslZp (d8 : Byte)
  | aslAcc
  | aslAbs (a16 : Addr)
  | aslZpx (d8 : Byte)
  | aslAbx (a16 : Addr)
  | lsrZp (d8 : Byte)
  | lsrAcc
  | lsrAbs (a16 : Addr)
  | lsrZpx (d8 : Byte)
  | lsrAbx (a16 : Addr)
  | rolZp (d8 : Byte)
  | rolAcc
  | rolAbs (a16 : Addr)
  | rolZpx (d8 : Byte)
  | rolAbx (a16 : Addr)
  | rorZp (d8 : Byte)
  | rorAcc
  | rorAbs (a16 : Addr)
  | rorZpx (d8 : Byte)
  | rorAbx (a16 : Addr)
  -- Control transfer (44_control.md)
  | jmpAbs (a16 : Addr)
  | jmpInd (a16 : Addr)
  | jsr (a16 : Addr)
  | rts
  | bcc (d8 : Byte)
  | bcs (d8 : Byte)
  | beq (d8 : Byte)
  | bne (d8 : Byte)
  | bmi (d8 : Byte)
  | bpl (d8 : Byte)
  | bvc (d8 : Byte)
  | bvs (d8 : Byte)
  -- Flags and system (45_flags_system.md)
  | clc
  | sec
  | cli
  | sei
  | cld
  | sed
  | clv
  | nop
  | brk
  | rti
  -- Optional composites, `UNDOC_SET = common` (46_undocumented.md)
  | laxZp (d8 : Byte)
  | laxZpy (d8 : Byte)
  | laxAbs (a16 : Addr)
  | laxAby (a16 : Addr)
  | laxIzx (d8 : Byte)
  | laxIzy (d8 : Byte)
  | saxZp (d8 : Byte)
  | saxZpy (d8 : Byte)
  | saxAbs (a16 : Addr)
  | saxIzx (d8 : Byte)
  | dcpZp (d8 : Byte)
  | dcpZpx (d8 : Byte)
  | dcpAbs (a16 : Addr)
  | dcpAbx (a16 : Addr)
  | dcpAby (a16 : Addr)
  | dcpIzx (d8 : Byte)
  | dcpIzy (d8 : Byte)
  | iscZp (d8 : Byte)
  | iscZpx (d8 : Byte)
  | iscAbs (a16 : Addr)
  | iscAbx (a16 : Addr)
  | iscAby (a16 : Addr)
  | iscIzx (d8 : Byte)
  | iscIzy (d8 : Byte)
  | sloZp (d8 : Byte)
  | sloZpx (d8 : Byte)
  | sloAbs (a16 : Addr)
  | sloAbx (a16 : Addr)
  | sloAby (a16 : Addr)
  | sloIzx (d8 : Byte)
  | sloIzy (d8 : Byte)
  | rlaZp (d8 : Byte)
  | rlaZpx (d8 : Byte)
  | rlaAbs (a16 : Addr)
  | rlaAbx (a16 : Addr)
  | rlaAby (a16 : Addr)
  | rlaIzx (d8 : Byte)
  | rlaIzy (d8 : Byte)
  | sreZp (d8 : Byte)
  | sreZpx (d8 : Byte)
  | sreAbs (a16 : Addr)
  | sreAbx (a16 : Addr)
  | sreAby (a16 : Addr)
  | sreIzx (d8 : Byte)
  | sreIzy (d8 : Byte)
  | rraZp (d8 : Byte)
  | rraZpx (d8 : Byte)
  | rraAbs (a16 : Addr)
  | rraAbx (a16 : Addr)
  | rraAby (a16 : Addr)
  | rraIzx (d8 : Byte)
  | rraIzy (d8 : Byte)
deriving DecidableEq, Repr

end Sys2Proof
end

