-- ==== Sys2Proof/Decode.lean ====
section
/-! DEFINITION. Decoding and encoding (30_encoding.md): the 16 by 16 opcode map R107 as sixteen rows, the decoder over any
list of bytes, which rejects by name, and the encoder, written from R108 and from the opcode lists of R241–R248. -/

namespace Sys2Proof

/-- `cat(h, l)` (00_scope.md R9): the 16-bit value `h * 256 + l`. -/
def cat (h l : Byte) : Addr := h ++ l

/-- `lo(w)` (00_scope.md R9). -/
def lo (w : Addr) : Byte := w.extractLsb' 0 8

/-- `hi(w)` (00_scope.md R9), which is also `page(w)`. -/
def hi (w : Addr) : Byte := w.extractLsb' 8 8

/-- What an opcode fixes: the format, and the instruction once the operand is known (30_encoding.md R91). -/
inductive Shape where
  /-- `F1`: the opcode alone. -/
  | f1 (instr : Instr)
  /-- `F2`: one operand byte `d8`. -/
  | f2 (make : Byte → Instr)
  /-- `F3`: two operand bytes, `a16` low byte first. -/
  | f3 (make : Addr → Instr)

/-- One entry of the opcode map: an opcode, whether it is there only under `UNDOC_SET = common`, and what it fixes. -/
structure OpcodeEntry where
  opcode : Byte
  optional : Bool
  shape : Shape

/-- Row `0x` of 30_encoding.md R107. -/
def opcodeRow0 : List OpcodeEntry :=
  [⟨0x00, false, .f1 .brk⟩, ⟨0x01, false, .f2 .oraIzx⟩, ⟨0x03, true, .f2 .sloIzx⟩,
   ⟨0x05, false, .f2 .oraZp⟩, ⟨0x06, false, .f2 .aslZp⟩, ⟨0x07, true, .f2 .sloZp⟩,
   ⟨0x08, false, .f1 .php⟩, ⟨0x09, false, .f2 .oraImm⟩, ⟨0x0A, false, .f1 .aslAcc⟩,
   ⟨0x0D, false, .f3 .oraAbs⟩, ⟨0x0E, false, .f3 .aslAbs⟩, ⟨0x0F, true, .f3 .sloAbs⟩]

/-- Row `1x` of 30_encoding.md R107. -/
def opcodeRow1 : List OpcodeEntry :=
  [⟨0x10, false, .f2 .bpl⟩, ⟨0x11, false, .f2 .oraIzy⟩, ⟨0x13, true, .f2 .sloIzy⟩,
   ⟨0x15, false, .f2 .oraZpx⟩, ⟨0x16, false, .f2 .aslZpx⟩, ⟨0x17, true, .f2 .sloZpx⟩,
   ⟨0x18, false, .f1 .clc⟩, ⟨0x19, false, .f3 .oraAby⟩, ⟨0x1B, true, .f3 .sloAby⟩,
   ⟨0x1D, false, .f3 .oraAbx⟩, ⟨0x1E, false, .f3 .aslAbx⟩, ⟨0x1F, true, .f3 .sloAbx⟩]

/-- Row `2x` of 30_encoding.md R107. -/
def opcodeRow2 : List OpcodeEntry :=
  [⟨0x20, false, .f3 .jsr⟩, ⟨0x21, false, .f2 .andIzx⟩, ⟨0x23, true, .f2 .rlaIzx⟩,
   ⟨0x24, false, .f2 .bitZp⟩, ⟨0x25, false, .f2 .andZp⟩, ⟨0x26, false, .f2 .rolZp⟩,
   ⟨0x27, true, .f2 .rlaZp⟩, ⟨0x28, false, .f1 .plp⟩, ⟨0x29, false, .f2 .andImm⟩,
   ⟨0x2A, false, .f1 .rolAcc⟩, ⟨0x2C, false, .f3 .bitAbs⟩, ⟨0x2D, false, .f3 .andAbs⟩,
   ⟨0x2E, false, .f3 .rolAbs⟩, ⟨0x2F, true, .f3 .rlaAbs⟩]

/-- Row `3x` of 30_encoding.md R107. -/
def opcodeRow3 : List OpcodeEntry :=
  [⟨0x30, false, .f2 .bmi⟩, ⟨0x31, false, .f2 .andIzy⟩, ⟨0x33, true, .f2 .rlaIzy⟩,
   ⟨0x35, false, .f2 .andZpx⟩, ⟨0x36, false, .f2 .rolZpx⟩, ⟨0x37, true, .f2 .rlaZpx⟩,
   ⟨0x38, false, .f1 .sec⟩, ⟨0x39, false, .f3 .andAby⟩, ⟨0x3B, true, .f3 .rlaAby⟩,
   ⟨0x3D, false, .f3 .andAbx⟩, ⟨0x3E, false, .f3 .rolAbx⟩, ⟨0x3F, true, .f3 .rlaAbx⟩]

/-- Row `4x` of 30_encoding.md R107. -/
def opcodeRow4 : List OpcodeEntry :=
  [⟨0x40, false, .f1 .rti⟩, ⟨0x41, false, .f2 .eorIzx⟩, ⟨0x43, true, .f2 .sreIzx⟩,
   ⟨0x45, false, .f2 .eorZp⟩, ⟨0x46, false, .f2 .lsrZp⟩, ⟨0x47, true, .f2 .sreZp⟩,
   ⟨0x48, false, .f1 .pha⟩, ⟨0x49, false, .f2 .eorImm⟩, ⟨0x4A, false, .f1 .lsrAcc⟩,
   ⟨0x4C, false, .f3 .jmpAbs⟩, ⟨0x4D, false, .f3 .eorAbs⟩, ⟨0x4E, false, .f3 .lsrAbs⟩,
   ⟨0x4F, true, .f3 .sreAbs⟩]

/-- Row `5x` of 30_encoding.md R107. -/
def opcodeRow5 : List OpcodeEntry :=
  [⟨0x50, false, .f2 .bvc⟩, ⟨0x51, false, .f2 .eorIzy⟩, ⟨0x53, true, .f2 .sreIzy⟩,
   ⟨0x55, false, .f2 .eorZpx⟩, ⟨0x56, false, .f2 .lsrZpx⟩, ⟨0x57, true, .f2 .sreZpx⟩,
   ⟨0x58, false, .f1 .cli⟩, ⟨0x59, false, .f3 .eorAby⟩, ⟨0x5B, true, .f3 .sreAby⟩,
   ⟨0x5D, false, .f3 .eorAbx⟩, ⟨0x5E, false, .f3 .lsrAbx⟩, ⟨0x5F, true, .f3 .sreAbx⟩]

/-- Row `6x` of 30_encoding.md R107. -/
def opcodeRow6 : List OpcodeEntry :=
  [⟨0x60, false, .f1 .rts⟩, ⟨0x61, false, .f2 .adcIzx⟩, ⟨0x63, true, .f2 .rraIzx⟩,
   ⟨0x65, false, .f2 .adcZp⟩, ⟨0x66, false, .f2 .rorZp⟩, ⟨0x67, true, .f2 .rraZp⟩,
   ⟨0x68, false, .f1 .pla⟩, ⟨0x69, false, .f2 .adcImm⟩, ⟨0x6A, false, .f1 .rorAcc⟩,
   ⟨0x6C, false, .f3 .jmpInd⟩, ⟨0x6D, false, .f3 .adcAbs⟩, ⟨0x6E, false, .f3 .rorAbs⟩,
   ⟨0x6F, true, .f3 .rraAbs⟩]

/-- Row `7x` of 30_encoding.md R107. -/
def opcodeRow7 : List OpcodeEntry :=
  [⟨0x70, false, .f2 .bvs⟩, ⟨0x71, false, .f2 .adcIzy⟩, ⟨0x73, true, .f2 .rraIzy⟩,
   ⟨0x75, false, .f2 .adcZpx⟩, ⟨0x76, false, .f2 .rorZpx⟩, ⟨0x77, true, .f2 .rraZpx⟩,
   ⟨0x78, false, .f1 .sei⟩, ⟨0x79, false, .f3 .adcAby⟩, ⟨0x7B, true, .f3 .rraAby⟩,
   ⟨0x7D, false, .f3 .adcAbx⟩, ⟨0x7E, false, .f3 .rorAbx⟩, ⟨0x7F, true, .f3 .rraAbx⟩]

/-- Row `8x` of 30_encoding.md R107. -/
def opcodeRow8 : List OpcodeEntry :=
  [⟨0x81, false, .f2 .staIzx⟩, ⟨0x83, true, .f2 .saxIzx⟩, ⟨0x84, false, .f2 .styZp⟩,
   ⟨0x85, false, .f2 .staZp⟩, ⟨0x86, false, .f2 .stxZp⟩, ⟨0x87, true, .f2 .saxZp⟩,
   ⟨0x88, false, .f1 .dey⟩, ⟨0x8A, false, .f1 .txa⟩, ⟨0x8C, false, .f3 .styAbs⟩,
   ⟨0x8D, false, .f3 .staAbs⟩, ⟨0x8E, false, .f3 .stxAbs⟩, ⟨0x8F, true, .f3 .saxAbs⟩]

/-- Row `9x` of 30_encoding.md R107. -/
def opcodeRow9 : List OpcodeEntry :=
  [⟨0x90, false, .f2 .bcc⟩, ⟨0x91, false, .f2 .staIzy⟩, ⟨0x94, false, .f2 .styZpx⟩,
   ⟨0x95, false, .f2 .staZpx⟩, ⟨0x96, false, .f2 .stxZpy⟩, ⟨0x97, true, .f2 .saxZpy⟩,
   ⟨0x98, false, .f1 .tya⟩, ⟨0x99, false, .f3 .staAby⟩, ⟨0x9A, false, .f1 .txs⟩,
   ⟨0x9D, false, .f3 .staAbx⟩]

/-- Row `Ax` of 30_encoding.md R107. -/
def opcodeRowA : List OpcodeEntry :=
  [⟨0xA0, false, .f2 .ldyImm⟩, ⟨0xA1, false, .f2 .ldaIzx⟩, ⟨0xA2, false, .f2 .ldxImm⟩,
   ⟨0xA3, true, .f2 .laxIzx⟩, ⟨0xA4, false, .f2 .ldyZp⟩, ⟨0xA5, false, .f2 .ldaZp⟩,
   ⟨0xA6, false, .f2 .ldxZp⟩, ⟨0xA7, true, .f2 .laxZp⟩, ⟨0xA8, false, .f1 .tay⟩,
   ⟨0xA9, false, .f2 .ldaImm⟩, ⟨0xAA, false, .f1 .tax⟩, ⟨0xAC, false, .f3 .ldyAbs⟩,
   ⟨0xAD, false, .f3 .ldaAbs⟩, ⟨0xAE, false, .f3 .ldxAbs⟩, ⟨0xAF, true, .f3 .laxAbs⟩]

/-- Row `Bx` of 30_encoding.md R107. -/
def opcodeRowB : List OpcodeEntry :=
  [⟨0xB0, false, .f2 .bcs⟩, ⟨0xB1, false, .f2 .ldaIzy⟩, ⟨0xB3, true, .f2 .laxIzy⟩,
   ⟨0xB4, false, .f2 .ldyZpx⟩, ⟨0xB5, false, .f2 .ldaZpx⟩, ⟨0xB6, false, .f2 .ldxZpy⟩,
   ⟨0xB7, true, .f2 .laxZpy⟩, ⟨0xB8, false, .f1 .clv⟩, ⟨0xB9, false, .f3 .ldaAby⟩,
   ⟨0xBA, false, .f1 .tsx⟩, ⟨0xBC, false, .f3 .ldyAbx⟩, ⟨0xBD, false, .f3 .ldaAbx⟩,
   ⟨0xBE, false, .f3 .ldxAby⟩, ⟨0xBF, true, .f3 .laxAby⟩]

/-- Row `Cx` of 30_encoding.md R107. -/
def opcodeRowC : List OpcodeEntry :=
  [⟨0xC0, false, .f2 .cpyImm⟩, ⟨0xC1, false, .f2 .cmpIzx⟩, ⟨0xC3, true, .f2 .dcpIzx⟩,
   ⟨0xC4, false, .f2 .cpyZp⟩, ⟨0xC5, false, .f2 .cmpZp⟩, ⟨0xC6, false, .f2 .decZp⟩,
   ⟨0xC7, true, .f2 .dcpZp⟩, ⟨0xC8, false, .f1 .iny⟩, ⟨0xC9, false, .f2 .cmpImm⟩,
   ⟨0xCA, false, .f1 .dex⟩, ⟨0xCC, false, .f3 .cpyAbs⟩, ⟨0xCD, false, .f3 .cmpAbs⟩,
   ⟨0xCE, false, .f3 .decAbs⟩, ⟨0xCF, true, .f3 .dcpAbs⟩]

/-- Row `Dx` of 30_encoding.md R107. -/
def opcodeRowD : List OpcodeEntry :=
  [⟨0xD0, false, .f2 .bne⟩, ⟨0xD1, false, .f2 .cmpIzy⟩, ⟨0xD3, true, .f2 .dcpIzy⟩,
   ⟨0xD5, false, .f2 .cmpZpx⟩, ⟨0xD6, false, .f2 .decZpx⟩, ⟨0xD7, true, .f2 .dcpZpx⟩,
   ⟨0xD8, false, .f1 .cld⟩, ⟨0xD9, false, .f3 .cmpAby⟩, ⟨0xDB, true, .f3 .dcpAby⟩,
   ⟨0xDD, false, .f3 .cmpAbx⟩, ⟨0xDE, false, .f3 .decAbx⟩, ⟨0xDF, true, .f3 .dcpAbx⟩]

/-- Row `Ex` of 30_encoding.md R107. -/
def opcodeRowE : List OpcodeEntry :=
  [⟨0xE0, false, .f2 .cpxImm⟩, ⟨0xE1, false, .f2 .sbcIzx⟩, ⟨0xE3, true, .f2 .iscIzx⟩,
   ⟨0xE4, false, .f2 .cpxZp⟩, ⟨0xE5, false, .f2 .sbcZp⟩, ⟨0xE6, false, .f2 .incZp⟩,
   ⟨0xE7, true, .f2 .iscZp⟩, ⟨0xE8, false, .f1 .inx⟩, ⟨0xE9, false, .f2 .sbcImm⟩,
   ⟨0xEA, false, .f1 .nop⟩, ⟨0xEC, false, .f3 .cpxAbs⟩, ⟨0xED, false, .f3 .sbcAbs⟩,
   ⟨0xEE, false, .f3 .incAbs⟩, ⟨0xEF, true, .f3 .iscAbs⟩]

/-- Row `Fx` of 30_encoding.md R107. -/
def opcodeRowF : List OpcodeEntry :=
  [⟨0xF0, false, .f2 .beq⟩, ⟨0xF1, false, .f2 .sbcIzy⟩, ⟨0xF3, true, .f2 .iscIzy⟩,
   ⟨0xF5, false, .f2 .sbcZpx⟩, ⟨0xF6, false, .f2 .incZpx⟩, ⟨0xF7, true, .f2 .iscZpx⟩,
   ⟨0xF8, false, .f1 .sed⟩, ⟨0xF9, false, .f3 .sbcAby⟩, ⟨0xFB, true, .f3 .iscAby⟩,
   ⟨0xFD, false, .f3 .sbcAbx⟩, ⟨0xFE, false, .f3 .incAbx⟩, ⟨0xFF, true, .f3 .iscAbx⟩]

/-- The opcode map (30_encoding.md R107), by high nibble. -/
def opcodeMap : List (List OpcodeEntry) :=
  [opcodeRow0, opcodeRow1, opcodeRow2, opcodeRow3, opcodeRow4, opcodeRow5, opcodeRow6, opcodeRow7,
   opcodeRow8, opcodeRow9, opcodeRowA, opcodeRowB, opcodeRowC, opcodeRowD, opcodeRowE, opcodeRowF]

/-- Why a list of bytes is not an instruction. -/
inductive DecodeError where
  /-- There is no opcode byte. -/
  | noBytes
  /-- The opcode is in no table (30_encoding.md R113, first list). -/
  | undefinedOpcode (op : Byte)
  /-- The opcode is in the table only under `UNDOC_SET = common` (R113, second list). -/
  | optionalOpcode (op : Byte)
  /-- The operand bytes that the opcode's format has are not all there (R91). -/
  | missingOperand (op : Byte)
deriving DecidableEq, Repr

/-- The table under a setting of `UNDOC_SET` (30_encoding.md R90 `Table[op]`, R112). -/
def lookupOpcode (u : UndocSet) (op : Byte) : Except DecodeError Shape :=
  match (opcodeMap.getD (op.toNat / 16) []).find? (fun e => e.opcode == op) with
  | none => .error (.undefinedOpcode op)
  | some e => if e.optional && u == .none then .error (.optionalOpcode op) else .ok e.shape

/-- How many operand bytes are fetched after an opcode byte: those of its format, none if it is not in the table
(30_encoding.md R91, R112 "no operand byte is read"). -/
def operandCount (u : UndocSet) (op : Byte) : Nat :=
  match lookupOpcode u op with
  | .ok (.f1 _) => 0
  | .ok (.f2 _) => 1
  | .ok (.f3 _) => 2
  | .error _ => 0

/-- The decoder: the instruction at the head of a list of bytes and the bytes after it (30_encoding.md R90, R91). -/
def decode (u : UndocSet) : List Byte → Except DecodeError (Instr × List Byte)
  | [] => .error .noBytes
  | op :: rest =>
    match lookupOpcode u op, rest with
    | .ok (.f1 i), rest => .ok (i, rest)
    | .ok (.f2 make), d8 :: rest => .ok (make d8, rest)
    | .ok (.f3 make), l :: h :: rest => .ok (make (cat h l), rest)
    | .ok _, _ => .error (.missingOperand op)
    | .error e, _ => .error e

/-- `F1`: the opcode byte alone (30_encoding.md R91). -/
def bytesF1 (op : Byte) : List Byte := [op]

/-- `F2`: the opcode byte, then `d8`. -/
def bytesF2 (op d8 : Byte) : List Byte := [op, d8]

/-- `F3`: the opcode byte, then `a16` low byte first. -/
def bytesF3 (op : Byte) (a16 : Addr) : List Byte := [op, lo a16, hi a16]

/-- The encoder: an instruction's bytes in memory order (30_encoding.md R108, 46_undocumented.md R241–R248). -/
def encode : Instr → List Byte
  | .ldaIzx d8 => bytesF2 0xA1 d8
  | .ldaZp d8 => bytesF2 0xA5 d8
  | .ldaImm d8 => bytesF2 0xA9 d8
  | .ldaAbs a16 => bytesF3 0xAD a16
  | .ldaIzy d8 => bytesF2 0xB1 d8
  | .ldaZpx d8 => bytesF2 0xB5 d8
  | .ldaAby a16 => bytesF3 0xB9 a16
  | .ldaAbx a16 => bytesF3 0xBD a16
  | .ldxImm d8 => bytesF2 0xA2 d8
  | .ldxZp d8 => bytesF2 0xA6 d8
  | .ldxAbs a16 => bytesF3 0xAE a16
  | .ldxZpy d8 => bytesF2 0xB6 d8
  | .ldxAby a16 => bytesF3 0xBE a16
  | .ldyImm d8 => bytesF2 0xA0 d8
  | .ldyZp d8 => bytesF2 0xA4 d8
  | .ldyAbs a16 => bytesF3 0xAC a16
  | .ldyZpx d8 => bytesF2 0xB4 d8
  | .ldyAbx a16 => bytesF3 0xBC a16
  | .staIzx d8 => bytesF2 0x81 d8
  | .staZp d8 => bytesF2 0x85 d8
  | .staAbs a16 => bytesF3 0x8D a16
  | .staIzy d8 => bytesF2 0x91 d8
  | .staZpx d8 => bytesF2 0x95 d8
  | .staAby a16 => bytesF3 0x99 a16
  | .staAbx a16 => bytesF3 0x9D a16
  | .stxZp d8 => bytesF2 0x86 d8
  | .stxAbs a16 => bytesF3 0x8E a16
  | .stxZpy d8 => bytesF2 0x96 d8
  | .styZp d8 => bytesF2 0x84 d8
  | .styAbs a16 => bytesF3 0x8C a16
  | .styZpx d8 => bytesF2 0x94 d8
  | .tax => bytesF1 0xAA
  | .tay => bytesF1 0xA8
  | .txa => bytesF1 0x8A
  | .tya => bytesF1 0x98
  | .tsx => bytesF1 0xBA
  | .txs => bytesF1 0x9A
  | .pha => bytesF1 0x48
  | .php => bytesF1 0x08
  | .pla => bytesF1 0x68
  | .plp => bytesF1 0x28
  | .andIzx d8 => bytesF2 0x21 d8
  | .andZp d8 => bytesF2 0x25 d8
  | .andImm d8 => bytesF2 0x29 d8
  | .andAbs a16 => bytesF3 0x2D a16
  | .andIzy d8 => bytesF2 0x31 d8
  | .andZpx d8 => bytesF2 0x35 d8
  | .andAby a16 => bytesF3 0x39 a16
  | .andAbx a16 => bytesF3 0x3D a16
  | .oraIzx d8 => bytesF2 0x01 d8
  | .oraZp d8 => bytesF2 0x05 d8
  | .oraImm d8 => bytesF2 0x09 d8
  | .oraAbs a16 => bytesF3 0x0D a16
  | .oraIzy d8 => bytesF2 0x11 d8
  | .oraZpx d8 => bytesF2 0x15 d8
  | .oraAby a16 => bytesF3 0x19 a16
  | .oraAbx a16 => bytesF3 0x1D a16
  | .eorIzx d8 => bytesF2 0x41 d8
  | .eorZp d8 => bytesF2 0x45 d8
  | .eorImm d8 => bytesF2 0x49 d8
  | .eorAbs a16 => bytesF3 0x4D a16
  | .eorIzy d8 => bytesF2 0x51 d8
  | .eorZpx d8 => bytesF2 0x55 d8
  | .eorAby a16 => bytesF3 0x59 a16
  | .eorAbx a16 => bytesF3 0x5D a16
  | .bitZp d8 => bytesF2 0x24 d8
  | .bitAbs a16 => bytesF3 0x2C a16
  | .adcIzx d8 => bytesF2 0x61 d8
  | .adcZp d8 => bytesF2 0x65 d8
  | .adcImm d8 => bytesF2 0x69 d8
  | .adcAbs a16 => bytesF3 0x6D a16
  | .adcIzy d8 => bytesF2 0x71 d8
  | .adcZpx d8 => bytesF2 0x75 d8
  | .adcAby a16 => bytesF3 0x79 a16
  | .adcAbx a16 => bytesF3 0x7D a16
  | .sbcIzx d8 => bytesF2 0xE1 d8
  | .sbcZp d8 => bytesF2 0xE5 d8
  | .sbcImm d8 => bytesF2 0xE9 d8
  | .sbcAbs a16 => bytesF3 0xED a16
  | .sbcIzy d8 => bytesF2 0xF1 d8
  | .sbcZpx d8 => bytesF2 0xF5 d8
  | .sbcAby a16 => bytesF3 0xF9 a16
  | .sbcAbx a16 => bytesF3 0xFD a16
  | .cmpIzx d8 => bytesF2 0xC1 d8
  | .cmpZp d8 => bytesF2 0xC5 d8
  | .cmpImm d8 => bytesF2 0xC9 d8
  | .cmpAbs a16 => bytesF3 0xCD a16
  | .cmpIzy d8 => bytesF2 0xD1 d8
  | .cmpZpx d8 => bytesF2 0xD5 d8
  | .cmpAby a16 => bytesF3 0xD9 a16
  | .cmpAbx a16 => bytesF3 0xDD a16
  | .cpxImm d8 => bytesF2 0xE0 d8
  | .cpxZp d8 => bytesF2 0xE4 d8
  | .cpxAbs a16 => bytesF3 0xEC a16
  | .cpyImm d8 => bytesF2 0xC0 d8
  | .cpyZp d8 => bytesF2 0xC4 d8
  | .cpyAbs a16 => bytesF3 0xCC a16
  | .incZp d8 => bytesF2 0xE6 d8
  | .incAbs a16 => bytesF3 0xEE a16
  | .incZpx d8 => bytesF2 0xF6 d8
  | .incAbx a16 => bytesF3 0xFE a16
  | .inx => bytesF1 0xE8
  | .iny => bytesF1 0xC8
  | .decZp d8 => bytesF2 0xC6 d8
  | .decAbs a16 => bytesF3 0xCE a16
  | .decZpx d8 => bytesF2 0xD6 d8
  | .decAbx a16 => bytesF3 0xDE a16
  | .dex => bytesF1 0xCA
  | .dey => bytesF1 0x88
  | .aslZp d8 => bytesF2 0x06 d8
  | .aslAcc => bytesF1 0x0A
  | .aslAbs a16 => bytesF3 0x0E a16
  | .aslZpx d8 => bytesF2 0x16 d8
  | .aslAbx a16 => bytesF3 0x1E a16
  | .lsrZp d8 => bytesF2 0x46 d8
  | .lsrAcc => bytesF1 0x4A
  | .lsrAbs a16 => bytesF3 0x4E a16
  | .lsrZpx d8 => bytesF2 0x56 d8
  | .lsrAbx a16 => bytesF3 0x5E a16
  | .rolZp d8 => bytesF2 0x26 d8
  | .rolAcc => bytesF1 0x2A
  | .rolAbs a16 => bytesF3 0x2E a16
  | .rolZpx d8 => bytesF2 0x36 d8
  | .rolAbx a16 => bytesF3 0x3E a16
  | .rorZp d8 => bytesF2 0x66 d8
  | .rorAcc => bytesF1 0x6A
  | .rorAbs a16 => bytesF3 0x6E a16
  | .rorZpx d8 => bytesF2 0x76 d8
  | .rorAbx a16 => bytesF3 0x7E a16
  | .jmpAbs a16 => bytesF3 0x4C a16
  | .jmpInd a16 => bytesF3 0x6C a16
  | .jsr a16 => bytesF3 0x20 a16
  | .rts => bytesF1 0x60
  | .bcc d8 => bytesF2 0x90 d8
  | .bcs d8 => bytesF2 0xB0 d8
  | .beq d8 => bytesF2 0xF0 d8
  | .bne d8 => bytesF2 0xD0 d8
  | .bmi d8 => bytesF2 0x30 d8
  | .bpl d8 => bytesF2 0x10 d8
  | .bvc d8 => bytesF2 0x50 d8
  | .bvs d8 => bytesF2 0x70 d8
  | .clc => bytesF1 0x18
  | .sec => bytesF1 0x38
  | .cli => bytesF1 0x58
  | .sei => bytesF1 0x78
  | .cld => bytesF1 0xD8
  | .sed => bytesF1 0xF8
  | .clv => bytesF1 0xB8
  | .nop => bytesF1 0xEA
  | .brk => bytesF1 0x00
  | .rti => bytesF1 0x40
  | .laxZp d8 => bytesF2 0xA7 d8
  | .laxZpy d8 => bytesF2 0xB7 d8
  | .laxAbs a16 => bytesF3 0xAF a16
  | .laxAby a16 => bytesF3 0xBF a16
  | .laxIzx d8 => bytesF2 0xA3 d8
  | .laxIzy d8 => bytesF2 0xB3 d8
  | .saxZp d8 => bytesF2 0x87 d8
  | .saxZpy d8 => bytesF2 0x97 d8
  | .saxAbs a16 => bytesF3 0x8F a16
  | .saxIzx d8 => bytesF2 0x83 d8
  | .dcpZp d8 => bytesF2 0xC7 d8
  | .dcpZpx d8 => bytesF2 0xD7 d8
  | .dcpAbs a16 => bytesF3 0xCF a16
  | .dcpAbx a16 => bytesF3 0xDF a16
  | .dcpAby a16 => bytesF3 0xDB a16
  | .dcpIzx d8 => bytesF2 0xC3 d8
  | .dcpIzy d8 => bytesF2 0xD3 d8
  | .iscZp d8 => bytesF2 0xE7 d8
  | .iscZpx d8 => bytesF2 0xF7 d8
  | .iscAbs a16 => bytesF3 0xEF a16
  | .iscAbx a16 => bytesF3 0xFF a16
  | .iscAby a16 => bytesF3 0xFB a16
  | .iscIzx d8 => bytesF2 0xE3 d8
  | .iscIzy d8 => bytesF2 0xF3 d8
  | .sloZp d8 => bytesF2 0x07 d8
  | .sloZpx d8 => bytesF2 0x17 d8
  | .sloAbs a16 => bytesF3 0x0F a16
  | .sloAbx a16 => bytesF3 0x1F a16
  | .sloAby a16 => bytesF3 0x1B a16
  | .sloIzx d8 => bytesF2 0x03 d8
  | .sloIzy d8 => bytesF2 0x13 d8
  | .rlaZp d8 => bytesF2 0x27 d8
  | .rlaZpx d8 => bytesF2 0x37 d8
  | .rlaAbs a16 => bytesF3 0x2F a16
  | .rlaAbx a16 => bytesF3 0x3F a16
  | .rlaAby a16 => bytesF3 0x3B a16
  | .rlaIzx d8 => bytesF2 0x23 d8
  | .rlaIzy d8 => bytesF2 0x33 d8
  | .sreZp d8 => bytesF2 0x47 d8
  | .sreZpx d8 => bytesF2 0x57 d8
  | .sreAbs a16 => bytesF3 0x4F a16
  | .sreAbx a16 => bytesF3 0x5F a16
  | .sreAby a16 => bytesF3 0x5B a16
  | .sreIzx d8 => bytesF2 0x43 d8
  | .sreIzy d8 => bytesF2 0x53 d8
  | .rraZp d8 => bytesF2 0x67 d8
  | .rraZpx d8 => bytesF2 0x77 d8
  | .rraAbs a16 => bytesF3 0x6F a16
  | .rraAbx a16 => bytesF3 0x7F a16
  | .rraAby a16 => bytesF3 0x7B a16
  | .rraIzx d8 => bytesF2 0x63 d8
  | .rraIzy d8 => bytesF2 0x73 d8

/-- The bytes of a word numbered as spec/opcode_table.json numbers its bits: bit 0 is the least significant bit of the first
byte, each later byte's bits count on from it, and bits from `nbits` up are 0. -/
def tableWordBytes (nbits w : Nat) : List Byte :=
  let v := w % 2 ^ nbits
  [BitVec.ofNat 8 v, BitVec.ofNat 8 (v / 256), BitVec.ofNat 8 (v / 65536)]

/-- The instruction the decoder reads from such a word, with every opcode of the table in force (`UNDOC_SET = common`). -/
def decodeTableWord (nbits w : Nat) : Option Instr :=
  match decode .common (tableWordBytes nbits w) with
  | .ok (i, _) => some i
  | .error _ => none

end Sys2Proof
end

