-- ==== Sys2Proof/Machine/State.lean ====
section
/-! DEFINITION. The machine's state as plain data (10_state.md R20–R39), the reasons a step can stop, and the state after reset.
The first fields are the spec's own tuple R20; the last four stand for what the spec places outside the core (the environment and
the configuration) and for the model's counter of free values. -/

namespace Sys2Proof.Machine

/-- `RAM` as its bytes that differ from `ramFill`: address and byte, addresses strictly rising (10_state.md R34). -/
abbrev Memory := List Host.Cell

/-- What a byte of RAM that nothing has written reads as. The spec leaves power-on RAM open (R301, D13): DESIGN CHOICE,
notes/assumptions/2.md. -/
def ramFill : Byte := 0x00

/-- The canonical form of `Memory`: addresses strictly rising and inside the 64 KiB space, no entry equal to `ramFill`. -/
abbrev Memory.wf (m : Memory) : Prop :=
  m.Pairwise (fun p q => p.1 < q.1) ∧ ∀ cell ∈ m, cell.1 < 65536 ∧ cell.2 ≠ ramFill

/-- The state at an instruction boundary (10_state.md R20). -/
structure State where
  /-- `A`, the accumulator (R21). -/
  a : Byte
  /-- `X` (R22). -/
  x : Byte
  /-- `Y` (R23). -/
  y : Byte
  /-- `SP`, the low byte of an address in the stack page (R24). -/
  sp : Byte
  /-- `PC`: the address of the next instruction's opcode byte (R25). -/
  pc : Addr
  /-- `N`, bit 7 of `P` (R26). -/
  n : Bool
  /-- `V`, bit 6 of `P`. -/
  v : Bool
  /-- `D`, bit 3 of `P`. -/
  d : Bool
  /-- `I`, bit 2 of `P`. -/
  i : Bool
  /-- `Z`, bit 1 of `P`. -/
  z : Bool
  /-- `C`, bit 0 of `P`. -/
  c : Bool
  /-- `cycles`, the cumulative cycle counter (R30). -/
  cycles : Nat
  /-- `nmi_pending` (R31). -/
  nmiPending : Bool
  /-- `irq_pending`, the last sample of the IRQ level (R32). -/
  irqPending : Bool
  /-- The bank latch (R33). -/
  latch : Byte
  /-- `RAM` (R34). -/
  ram : Memory
  /-- `fault`: absent, or the opcode and the address it was fetched from (R37). -/
  fault : Option (Byte × Addr)
  /-- ENVIRONMENT: the interrupt-request signal of each device wired to IRQ (60_exceptions.md R263); notes/assumptions/4.md. -/
  irqSignals : List Bool
  /-- ENVIRONMENT: what has happened to the peripherals and the cartridge, newest first (R36); notes/assumptions/5.md. -/
  devices : List DeviceEvent
  /-- CONFIGURATION: the parameters of the step relation (R38); no transition changes it; notes/assumptions/6.md. -/
  cfg : Config
  /-- MODEL: how many free values a fatal decode fault has drawn; notes/assumptions/7.md. -/
  freeCount : Nat
deriving DecidableEq, Repr

/-- Why the machine stands still. -/
inductive Fault where
  /-- Raised by `step` while `fault` is present: a fatal decode fault has happened and only reset leaves it (10_state.md R37,
  60_exceptions.md R260, 70_reset_and_hazards.md R320). It is the spec's own stop. Safe. -/
  | fatalDecode (opcode : Byte) (pc : Addr)
deriving DecidableEq, Repr

/-- Why the model gives a step no meaning. -/
inductive Refusal where
  /-- Raised by an arm of `exec` whose instruction has no meaning yet. No arm is left. Safe. -/
  | notModelled (mnemonic : String)
  /-- Raised by `step` when the configuration breaks 20_memory.md R63, which says to refuse it. Safe. -/
  | illFormedConfig
deriving DecidableEq, Repr

/-- The machine right after reset (10_state.md R39, 70_reset_and_hazards.md R300). `SP`, the flags, `cycles`, the latch, the interrupt
latches and `fault` are the spec's values. `PC` is what `MemRead($FFFC, 2)` gives on this memory. `A X Y` and RAM are DESIGN CHOICE
(notes/assumptions/1.md, 2.md): the spec leaves them open; so are the environment and the configuration (4.md, 5.md, 6.md).
Laws/Reset.lean proves it equal to the transition `reset` applied to a power-on state. -/
def State.reset : State where
  a := 0x00
  x := 0x00
  y := 0x00
  sp := 0xFD
  pc := 0x0000
  n := false
  v := false
  d := false
  i := true
  z := false
  c := false
  cycles := 0
  nmiPending := false
  irqPending := false
  latch := 0x37
  ram := []
  fault := none
  irqSignals := []
  devices := []
  cfg := Config.default
  freeCount := 0

end Sys2Proof.Machine
end

