-- ==== Sys2Proof/Machine/Flags.lean ====
section
/-! DEFINITION. The status byte (10_state.md R26–R28) and every flag computation of the instruction rules: `SetNZ`, the compares,
binary and decimal addition and subtraction (42_logic_arith.md), the shifts and rotates (43_incdec_shift.md). -/

namespace Sys2Proof.Machine

/-- A flag as the bit `0` or `1` in a byte. -/
def flagBit (f : Bool) : Byte := if f then 1 else 0

/-- `P_byte(b)` (10_state.md R27): the status register as a byte, bit 5 set, bit 4 equal to `b`. -/
def pByte (b : Bool) (s : State) : Byte :=
  (flagBit s.n <<< 7) ||| (flagBit s.v <<< 6) ||| ((1 : Byte) <<< 5) ||| (flagBit b <<< 4)
    ||| (flagBit s.d <<< 3) ||| (flagBit s.i <<< 2) ||| (flagBit s.z <<< 1) ||| flagBit s.c

/-- `SetP(v)` (10_state.md R28): the six flags from a byte, whose bits 5 and 4 are ignored. -/
def setP (p : Byte) (s : State) : State :=
  { s with n := p.getLsbD 7, v := p.getLsbD 6, d := p.getLsbD 3, i := p.getLsbD 2, z := p.getLsbD 1, c := p.getLsbD 0 }

/-- `SetNZ(v)` (00_scope.md R9). -/
def setNZ (r : Byte) (s : State) : State :=
  { s with n := r.getLsbD 7, z := r == 0 }

/-- `C <- b`. -/
def setC (b : Bool) (s : State) : State := { s with c := b }

/-- `I <- b`. -/
def setI (b : Bool) (s : State) : State := { s with i := b }

/-- `D <- b`. -/
def setD (b : Bool) (s : State) : State := { s with d := b }

/-- `V <- b`. -/
def setV (b : Bool) (s : State) : State := { s with v := b }

/-- The flags of a compare of a register with `m` (42_logic_arith.md R170–R172): `C` the unsigned comparison, `Z` equality, `N` bit 7
of the 8-bit difference. -/
def compareWith (reg m : Byte) (s : State) : State :=
  { s with n := (reg - m).getLsbD 7, z := reg == m, c := decide (m.toNat ≤ reg.toNat) }

/-- The natural number of a carry. -/
def carryNat (c : Bool) : Nat := if c then 1 else 0

/-- Binary `ADC` (42_logic_arith.md R165). -/
def adcBinary (a m : Byte) (c : Bool) : AluOut :=
  let t : Nat := a.toNat + m.toNat + carryNat c
  let r : Byte := BitVec.ofNat 8 t
  { acc := r
    n := r.getLsbD 7
    v := ((~~~(a ^^^ m)) &&& (a ^^^ r) &&& 0x80) != 0
    z := r == 0
    c := decide (0xFF < t) }

/-- Binary `SBC` (42_logic_arith.md R167). -/
def sbcBinary (a m : Byte) (c : Bool) : AluOut :=
  let t : Nat := a.toNat + (m ^^^ 0xFF).toNat + carryNat c
  let r : Byte := BitVec.ofNat 8 t
  { acc := r
    n := r.getLsbD 7
    v := ((a ^^^ m) &&& (a ^^^ r) &&& 0x80) != 0
    z := r == 0
    c := decide (0xFF < t) }

/-- The low digit of a byte, its bits 3 to 0. -/
def lowDigit (b : Byte) : Nat := b.toNat % 16

/-- The high digit of a byte in place: `b & $F0`. -/
def highPart (b : Byte) : Nat := (b &&& 0xF0).toNat

/-- Decimal `ADC` by the NMOS sequence (42_logic_arith.md R166): `Z` from the binary sum, `N` and `V` before the high-digit
correction. -/
def adcDecimal (a m : Byte) (c : Bool) : AluOut :=
  let zb : Byte := BitVec.ofNat 8 (a.toNat + m.toNat + carryNat c)
  let al0 : Nat := lowDigit a + lowDigit m + carryNat c
  let al : Nat := if 0x0A ≤ al0 then (al0 + 0x06) % 16 + 0x10 else al0
  let t0 : Nat := highPart a + highPart m + al
  let sum : Int := (a &&& 0xF0).toInt + (m &&& 0xF0).toInt + (al : Int)
  let t : Nat := if 0xA0 ≤ t0 then t0 + 0x60 else t0
  { acc := BitVec.ofNat 8 t
    n := t0.testBit 7
    v := decide (sum < -128) || decide (127 < sum)
    z := zb == 0
    c := decide (0x100 ≤ t) }

/-- The accumulator of decimal `SBC` by the NMOS sequence (42_logic_arith.md R168); `% 16` on an integer is its two's-complement
`& $0F`. -/
def sbcDecimalAcc (a m : Byte) (c : Bool) : Byte :=
  let al0 : Int := (lowDigit a : Int) - (lowDigit m : Int) + (carryNat c : Int) - 1
  let al : Int := if al0 < 0 then (al0 - 0x06) % 16 - 0x10 else al0
  let r0 : Int := (highPart a : Int) - (highPart m : Int) + al
  let r : Int := if r0 < 0 then r0 - 0x60 else r0
  BitVec.ofInt 8 r

/-- Decimal `SBC` (42_logic_arith.md R168): the flags are those of the binary subtraction. -/
def sbcDecimal (a m : Byte) (c : Bool) : AluOut :=
  { sbcBinary a m c with acc := sbcDecimalAcc a m c }

/-- A valid BCD byte: both digits are 0 to 9 (00_scope.md section 7). -/
def validBcd (b : Byte) : Bool := decide (b.toNat % 16 ≤ 9) && decide (b.toNat / 16 ≤ 9)

/-- The number a valid BCD byte stands for. -/
def bcdValue (b : Byte) : Nat := b.toNat / 16 * 10 + b.toNat % 16

/-- The BCD byte of a number below 100. -/
def bcdByte (k : Nat) : Byte := BitVec.ofNat 8 (k / 10 % 10 * 16 + k % 10)

/-- The exact decimal sum and its carry (42_logic_arith.md R169, the normative part). -/
def bcdSum (a m : Byte) (c : Bool) : Byte × Bool :=
  let t := bcdValue a + bcdValue m + carryNat c
  (bcdByte (t % 100), decide (100 ≤ t))

/-- The exact decimal difference modulo 100, and whether there was no borrow (42_logic_arith.md R168, R169). -/
def bcdDifference (a m : Byte) (c : Bool) : Byte × Bool :=
  let t := bcdValue a + 100 + carryNat c - 1 - bcdValue m
  (bcdByte (t % 100), decide (100 ≤ t))

/-- `DECIMAL_ALGO` for R169's cautious model: `A` and `C` exact on valid BCD operands, every other output a free value. -/
def decimalCautious (op : DecimalOp) (a m : Byte) (c : Bool) : AluOut :=
  let free := Config.decimalOpen op a m c
  if validBcd a && validBcd m then
    let exact := match op with
      | .adc => bcdSum a m c
      | .sbc => bcdDifference a m c
    { free with acc := exact.1, c := exact.2 }
  else free

/-- Decimal `ADC` or `SBC` under the configured `DECIMAL_ALGO` (42_logic_arith.md R169). -/
def decimal (algo : DecimalAlgo) (op : DecimalOp) (a m : Byte) (c : Bool) : AluOut :=
  match algo, op with
  | .nmos, .adc => adcDecimal a m c
  | .nmos, .sbc => sbcDecimal a m c
  | .cautious, op => decimalCautious op a m c

/-- The result of `ADC` in the mode `D` selects (42_logic_arith.md R164–R166). -/
def adcOut (s : State) (m : Byte) : AluOut :=
  if s.d then decimal s.cfg.decimal .adc s.a m s.c else adcBinary s.a m s.c

/-- The result of `SBC` in the mode `D` selects (42_logic_arith.md R164, R167, R168). -/
def sbcOut (s : State) (m : Byte) : AluOut :=
  if s.d then decimal s.cfg.decimal .sbc s.a m s.c else sbcBinary s.a m s.c

/-- Write the accumulator and `N V Z C` from an addition or subtraction. -/
def setAlu (out : AluOut) (s : State) : State :=
  { s with a := out.acc, n := out.n, v := out.v, z := out.z, c := out.c }

/-- `ASL` (43_incdec_shift.md R186): the shifted byte and the bit shifted out. The incoming carry is not used. -/
def shiftLeft (b : Byte) (_c : Bool) : Byte × Bool := (b <<< 1, b.getLsbD 7)

/-- `LSR` (43_incdec_shift.md R187). The incoming carry is not used. -/
def shiftRight (b : Byte) (_c : Bool) : Byte × Bool := (b >>> 1, b.getLsbD 0)

/-- `ROL` (43_incdec_shift.md R188): the old carry enters bit 0. -/
def rotateLeft (b : Byte) (c : Bool) : Byte × Bool := ((b <<< 1) ||| flagBit c, b.getLsbD 7)

/-- `ROR` (43_incdec_shift.md R189): the old carry enters bit 7. -/
def rotateRight (b : Byte) (c : Bool) : Byte × Bool := ((b >>> 1) ||| (flagBit c <<< 7), b.getLsbD 0)

end Sys2Proof.Machine
end

