-- ==== Sys2Proof/Machine/Ops.lean ====
section
/-! DEFINITION. The shared operations: RAM, the bank controller and the bus router (20_memory.md), the stack (10_state.md R24), taking an
interrupt or `BRK` and returning from it (60_exceptions.md R270, 45_flags_system.md R228, R229), the fatal decode fault (R260) and
reset (70_reset_and_hazards.md R300). A bus read is two functions: `busRead` is the byte it returns, `afterRead` the state it leaves,
which differs only if a device answered. -/

namespace Sys2Proof.Machine

/-- `zext_16(b)` (00_scope.md R9). -/
def zext16 (b : Byte) : Addr := b.setWidth 16

/-- `sext_8(b)` as a 16-bit offset modulo 65536 (00_scope.md R9). -/
def sext16 (b : Byte) : Addr := b.signExtend 16

/-! ### RAM -/

/-- `RAM[k]` (10_state.md R34). -/
def ramRead : Memory → Nat → Byte
  | [], _ => ramFill
  | (k', b) :: rest, k => if k' = k then b else ramRead rest k

/-- Put an entry at its place in rising order. -/
def insertCell (k : Nat) (b : Byte) : Memory → Memory
  | [] => [(k, b)]
  | (k', b') :: rest => if k < k' then (k, b) :: (k', b') :: rest else (k', b') :: insertCell k b rest

/-- `RAM[k] <- b`, keeping the canonical form: the old entry goes, and the new one is listed unless it is what an unlisted address
reads as. -/
def ramWrite (m : Memory) (k : Nat) (b : Byte) : Memory :=
  let rest := m.filter fun cell => cell.1 != k
  if b = ramFill then rest else insertCell k b rest

/-! ### The bank controller -/

/-- Band0's `{RAM, ROM, IO}` (20_memory.md R56). -/
inductive Mapping where
  | ram
  | rom (r : Rom)
  | io
deriving DecidableEq, Repr

/-- `Map(latch, a)` in the three windows, nothing outside them (20_memory.md R53, R56). -/
def windowMap (latch : Byte) (a : Addr) : Option Mapping :=
  let loram := latch.getLsbD 0
  let hiram := latch.getLsbD 1
  let charen := latch.getLsbD 2
  if 0xA000 ≤ a.toNat ∧ a.toNat ≤ 0xBFFF then
    some (if loram && hiram then .rom .basic else .ram)
  else if 0xE000 ≤ a.toNat then
    some (if hiram then .rom .kernal else .ram)
  else if 0xD000 ≤ a.toNat ∧ a.toNat ≤ 0xDFFF then
    some (if !loram && !hiram then .ram else if charen then .io else .rom .char)
  else none

/-- A ROM image of the configuration (10_state.md R35). -/
def romImage (cfg : Config) : Rom → Option (List Byte)
  | .basic => cfg.romBasic
  | .char => cfg.romChar
  | .kernal => cfg.romKernal

/-- The base address of a ROM image's window (20_memory.md R57). -/
def romBase : Rom → Nat
  | .basic => 0xA000
  | .char => 0xD000
  | .kernal => 0xE000

/-- `img[a - base]` (20_memory.md R57). -/
def romByte (cfg : Config) (r : Rom) (a : Addr) : Byte :=
  ((romImage cfg r).getD []).getD (a.toNat - romBase r) 0

/-! ### The bus router -/

/-- Is the address in an inclusive range? -/
def inRange (lo hi a : Addr) : Bool := decide (lo.toNat ≤ a.toNat) && decide (a.toNat ≤ hi.toNat)

/-- Does this region of the cartridge claim the access (20_memory.md R58)? -/
def regionClaims (a : Addr) (latch : Byte) (kind : Access) (r : CartRegion) : Bool :=
  inRange r.lo r.hi a && (latch &&& r.latchMask) == r.latchValue &&
    match kind with
    | .read => r.onRead
    | .write => r.onWrite

/-- `CART present and CART.claims(a, latch, kind)` (20_memory.md R58). -/
def cartClaims (cfg : Config) (latch : Byte) (kind : Access) (a : Addr) : Bool :=
  match cfg.cart with
  | none => false
  | some regions => regions.any (regionClaims a latch kind)

/-- The peripheral whose range holds the address, if there is one (20_memory.md R50). -/
def peripheralAt (cfg : Config) (a : Addr) : Option Nat :=
  cfg.peripherals.findIdx? fun p => inRange p.lo p.hi a

/-- Who answers an access (20_memory.md R54). -/
inductive Owner where
  | device (dev : Device)
  | latch
  | rom (r : Rom)
  | ram
deriving DecidableEq, Repr

/-- A registered peripheral if one is at the address, else RAM (20_memory.md R50 steps 3 and 4). -/
def peripheralOrRam (cfg : Config) (a : Addr) : Owner :=
  match peripheralAt cfg a with
  | some k => .device (.peripheral k)
  | none => .ram

/-- The owner of a window that maps ROM: the image on a read, if it is present (R57); RAM on a write (R61). -/
def romOwner (cfg : Config) (kind : Access) (r : Rom) : Owner :=
  match kind with
  | .read => if (romImage cfg r).isSome then .rom r else .ram
  | .write => .ram

/-- The resolution of R50 and R51, first match wins: cartridge, latch, window, peripheral, RAM. -/
def owner (cfg : Config) (latch : Byte) (kind : Access) (a : Addr) : Owner :=
  if cartClaims cfg latch kind a then .device .cart
  else if a = latchAddr then .latch
  else match windowMap latch a with
    | some (.rom r) => romOwner cfg kind r
    | some .ram => .ram
    | some .io => peripheralOrRam cfg a
    | none => peripheralOrRam cfg a

/-- The byte `MemRead(a)` returns (20_memory.md R50, R55, R57, R62). -/
def busRead (a : Addr) (s : State) : Byte :=
  match owner s.cfg s.latch .read a with
  | .device dev => Config.deviceByte s.devices dev a
  | .latch => s.latch &&& s.cfg.latchRMask
  | .rom r => romByte s.cfg r a
  | .ram => ramRead s.ram a.toNat

/-- The devices after `MemRead(a)`: the device that answered has seen the read (20_memory.md R67). -/
def devicesAfterRead (a : Addr) (s : State) : List DeviceEvent :=
  match owner s.cfg s.latch .read a with
  | .device dev => .read dev a :: s.devices
  | .latch => s.devices
  | .rom _ => s.devices
  | .ram => s.devices

/-- The state `MemRead(a)` leaves. -/
def afterRead (a : Addr) (s : State) : State := { s with devices := devicesAfterRead a s }

/-- The latch after `MemWrite(a, b)` (20_memory.md R51 step 2, R55). -/
def latchAfterWrite (a : Addr) (b : Byte) (s : State) : Byte :=
  match owner s.cfg s.latch .write a with
  | .latch => b
  | .device _ => s.latch
  | .rom _ => s.latch
  | .ram => s.latch

/-- RAM after `MemWrite(a, b)` (20_memory.md R51 steps 3 and 4, R61). -/
def ramAfterWrite (a : Addr) (b : Byte) (s : State) : Memory :=
  match owner s.cfg s.latch .write a with
  | .ram => ramWrite s.ram a.toNat b
  | .device _ => s.ram
  | .rom _ => s.ram
  | .latch => s.ram

/-- The devices after `MemWrite(a, b)`: the device that owns the address has seen the full address and the byte (20_memory.md R51). -/
def devicesAfterWrite (a : Addr) (b : Byte) (s : State) : List DeviceEvent :=
  match owner s.cfg s.latch .write a with
  | .device dev => .write dev a b :: s.devices
  | .latch => s.devices
  | .rom _ => s.devices
  | .ram => s.devices

/-- `MemWrite(a, b)` (20_memory.md R51). -/
def busWrite (a : Addr) (b : Byte) (s : State) : State :=
  { s with latch := latchAfterWrite a b s, ram := ramAfterWrite a b s, devices := devicesAfterWrite a b s }

/-- `MemRead(a, 2)`, low byte read first (20_memory.md R64). -/
def readWord (a : Addr) (s : State) : Addr := cat (busRead (a + 1) (afterRead a s)) (busRead a s)

/-- The state `MemRead(a, 2)` leaves. -/
def afterReadWord (a : Addr) (s : State) : State := afterRead (a + 1) (afterRead a s)

/-- The bytes of `k` bus reads at rising addresses from `a`, modulo 65536, in that order. -/
def busReads : Nat → Addr → State → List Byte
  | 0, _, _ => []
  | k + 1, a, s => busRead a s :: busReads k (a + 1) (afterRead a s)

/-- The state those reads leave. -/
def afterReads : Nat → Addr → State → State
  | 0, _, s => s
  | k + 1, a, s => afterReads k (a + 1) (afterRead a s)

/-! ### The stack -/

/-- The address `SP` designates: `cat(STACK_PAGE, SP)` (10_state.md R24). -/
def stackAddr (sp : Byte) : Addr := cat 0x01 sp

/-- `SP <- v`. -/
def setSp (v : Byte) (s : State) : State := { s with sp := v }

/-- `Push(v)` (10_state.md R24). -/
def push (b : Byte) (s : State) : State := setSp (s.sp - 1) (busWrite (stackAddr s.sp) b s)

/-- The byte `Pull()` returns (10_state.md R24). -/
def pullByte (s : State) : Byte := busRead (stackAddr (s.sp + 1)) s

/-- The state `Pull()` leaves. -/
def afterPull (s : State) : State := setSp (s.sp + 1) (afterRead (stackAddr (s.sp + 1)) s)

/-! ### Ends of a transition -/

/-- `PC <- PC +_16 len` and `cycles <- cycles + n`, the last lines of a rule (00_scope.md R9). -/
def advance (len n : Nat) (s : State) : State :=
  { s with pc := s.pc + BitVec.ofNat 16 len, cycles := s.cycles + n }

/-- `PC <- target` and `cycles <- cycles + n`, the last lines of a transfer. -/
def jumpTo (target : Addr) (n : Nat) (s : State) : State := { s with pc := target, cycles := s.cycles + n }

/-! ### Interrupts, `BRK` and the return -/

/-- The two interrupts the poll can take (60_exceptions.md R270). -/
inductive InterruptKind where
  | nmi
  | irq
deriving DecidableEq, Repr

/-- `VEC_NMI` (60_exceptions.md R271). -/
def vecNmi : Addr := 0xFFFA

/-- `VEC_RESET` (60_exceptions.md R271). -/
def vecReset : Addr := 0xFFFC

/-- `VEC_IRQ`, of IRQ and of `BRK` (60_exceptions.md R271). -/
def vecIrq : Addr := 0xFFFE

/-- `INT_CYCLES`, also the cost of `BRK` (60_exceptions.md R272, 45_flags_system.md R228). -/
def intCycles : Nat := 7

/-- The pushes of an entry: `ret` high byte first, then the status byte with bit 4 equal to `brk` (60_exceptions.md R270,
45_flags_system.md R228). -/
def pushFrame (ret : Addr) (brk : Bool) (s : State) : State :=
  push (pByte brk s) (push (lo ret) (push (hi ret) s))

/-- TAKING AN EXCEPTION, the common part of an NMI entry, an IRQ entry and `BRK` (60_exceptions.md R270, 45_flags_system.md R228): the
pushes, `I <- 1`, `PC` from the vector, read through the map then in force. -/
def takeException (ret : Addr) (brk : Bool) (vector : Addr) (s : State) : State :=
  let t := setI true (pushFrame ret brk s)
  jumpTo (readWord vector t) intCycles (afterReadWord vector t)

/-- `nmi_pending <- 0` (60_exceptions.md R270). -/
def clearNmi (s : State) : State := { s with nmiPending := false }

/-- `irq_pending <- 0` (60_exceptions.md R270). -/
def clearIrq (s : State) : State := { s with irqPending := false }

/-- `Enter(kind)` (60_exceptions.md R270). -/
def enter (kind : InterruptKind) (s : State) : State :=
  match kind with
  | .nmi => clearNmi (takeException s.pc false vecNmi s)
  | .irq => clearIrq (takeException s.pc false vecIrq s)

/-- RETURNING FROM AN EXCEPTION: the status byte, then `PC` low and high, are pulled (45_flags_system.md R229). -/
def returnFromException (s : State) : State :=
  let t1 := setP (pullByte s) (afterPull s)
  let t2 := afterPull t1
  jumpTo (cat (pullByte t2) (pullByte t1)) 6 (afterPull t2)

/-- `IRQ_level()` (60_exceptions.md R263): the OR of the devices' signals. -/
def irqLevel (s : State) : Bool := s.irqSignals.any id

/-- The first line of the poll: `irq_pending <- IRQ_level()` (60_exceptions.md R266). -/
def sampleIrq (s : State) : State := { s with irqPending := irqLevel s }

/-- Which interrupt the poll takes, none if it executes an instruction (60_exceptions.md R266, R267), from the sampled state. -/
def pendingInterrupt (s : State) : Option InterruptKind :=
  if s.nmiPending then some .nmi
  else if s.irqPending && !s.i then some .irq
  else none

/-! ### The fatal decode fault and reset -/

/-- `FatalDecode(op, pc)` (60_exceptions.md R260): the record is set; the latch, RAM and the devices stand as they were; registers, flags
and `PC` are unspecified (10_state.md R37), free values here, and `cycles` has not gone down (R302). notes/assumptions/7.md. -/
def fatalDecode (op : Byte) (pc : Addr) (s : State) : State :=
  let free := Config.afterFault s.freeCount
  { setP free.p s with
    fault := some (op, pc)
    a := free.a
    x := free.x
    y := free.y
    sp := free.sp
    pc := free.pc
    cycles := s.cycles + free.cyclesAdded
    freeCount := s.freeCount + 1 }

/-- `RESET_SP` (00_scope.md R8). -/
def resetSp : Byte := 0xFD

/-- `LATCH_RESET` (00_scope.md R8). -/
def latchReset : Byte := 0x37

/-- `reset()` up to the vector read (70_reset_and_hazards.md R300). -/
def resetRegisters (s : State) : State :=
  { s with
    latch := latchReset
    fault := none
    nmiPending := false
    irqPending := false
    n := false
    v := false
    d := false
    z := false
    c := false
    i := true
    sp := resetSp
    cycles := 0 }

/-- `PC <- target`, no cycles. -/
def setPc (target : Addr) (s : State) : State := { s with pc := target }

/-- `reset()` (70_reset_and_hazards.md R300): the transition the host requests at any boundary, also in the faulted state. -/
def resetMachine (s : State) : State :=
  let t := resetRegisters s
  setPc (readWord vecReset t) (afterReadWord vecReset t)

end Sys2Proof.Machine
end

