-- ==== Sys2Proof/Machine/Operands.lean ====
section
/-! DEFINITION. The operand forms (30_encoding.md R92–R105): the effective address of each addressing mode, the pointer reads it makes, the
page crossing it reports, and `LoadOperand` and `StoreOperand`. The types say which instructions have which modes: a store has a memory
mode (no immediate, R94), a reading instruction a memory mode or an immediate, a read-modify-write one a memory mode or `A` (R93). -/

namespace Sys2Proof.Machine

/-- The modes with an effective address in memory (30_encoding.md R95–R100, R102, R103). -/
inductive MemMode where
  | zp (d8 : Byte)
  | zpx (d8 : Byte)
  | zpy (d8 : Byte)
  | abs (a16 : Addr)
  | abx (a16 : Addr)
  | aby (a16 : Addr)
  | izx (d8 : Byte)
  | izy (d8 : Byte)
deriving DecidableEq, Repr

/-- The operand of an instruction that reads it: the immediate byte (R94), or a memory mode. -/
inductive ReadOperand where
  | imm (d8 : Byte)
  | mem (m : MemMode)
deriving DecidableEq, Repr

/-- The operand of a shift, rotate, increment or decrement: the accumulator (R93), or a memory mode. -/
inductive RmwOperand where
  | acc
  | mem (m : MemMode)
deriving DecidableEq, Repr

/-- The length of an instruction in this mode (30_encoding.md R91, R92). -/
def memLength : MemMode → Nat
  | .zp _ => 2
  | .zpx _ => 2
  | .zpy _ => 2
  | .abs _ => 3
  | .abx _ => 3
  | .aby _ => 3
  | .izx _ => 2
  | .izy _ => 2

/-- The length with a reading operand. -/
def readLength : ReadOperand → Nat
  | .imm _ => 2
  | .mem m => memLength m

/-- The length with a read-modify-write operand. -/
def rmwLength : RmwOperand → Nat
  | .acc => 1
  | .mem m => memLength m

/-- The 16-bit pointer at a zero-page address, low byte read first, the high byte's address wrapping in the zero page
(30_encoding.md R102, R103). -/
def zpPointer (z : Byte) (s : State) : Addr :=
  cat (busRead (zext16 (z + 1)) (afterRead (zext16 z) s)) (busRead (zext16 z) s)

/-- The state the two pointer reads leave. -/
def afterZpPointer (z : Byte) (s : State) : State := afterRead (zext16 (z + 1)) (afterRead (zext16 z) s)

/-- The effective address `ea` (30_encoding.md R95–R103). -/
def effAddr (m : MemMode) (s : State) : Addr :=
  match m with
  | .zp d8 => zext16 d8
  | .zpx d8 => zext16 (d8 + s.x)
  | .zpy d8 => zext16 (d8 + s.y)
  | .abs a16 => a16
  | .abx a16 => a16 + zext16 s.x
  | .aby a16 => a16 + zext16 s.y
  | .izx d8 => zpPointer (d8 + s.x) s
  | .izy d8 => zpPointer d8 s + zext16 s.y

/-- The state after the mode's pointer reads (20_memory.md R66 item 3). -/
def afterPointer (m : MemMode) (s : State) : State :=
  match m with
  | .zp _ => s
  | .zpx _ => s
  | .zpy _ => s
  | .abs _ => s
  | .abx _ => s
  | .aby _ => s
  | .izx d8 => afterZpPointer (d8 + s.x) s
  | .izy d8 => afterZpPointer d8 s

/-- `crossed`: the index moved the address to another page (30_encoding.md R99, R100, R103; false in the other modes). -/
def pageCrossed (m : MemMode) (s : State) : Bool :=
  match m with
  | .zp _ => false
  | .zpx _ => false
  | .zpy _ => false
  | .abs _ => false
  | .abx a16 => hi (a16 + zext16 s.x) != hi a16
  | .aby a16 => hi (a16 + zext16 s.y) != hi a16
  | .izx _ => false
  | .izy d8 => hi (zpPointer d8 s + zext16 s.y) != hi (zpPointer d8 s)

/-- The data byte at the effective address (30_encoding.md R105). -/
def memValue (m : MemMode) (s : State) : Byte := busRead (effAddr m s) (afterPointer m s)

/-- The state after the pointer reads and the data read. -/
def afterMemRead (m : MemMode) (s : State) : State := afterRead (effAddr m s) (afterPointer m s)

/-- `LoadOperand()` of a reading instruction (30_encoding.md R105). -/
def readValue (o : ReadOperand) (s : State) : Byte :=
  match o with
  | .imm d8 => d8
  | .mem m => memValue m s

/-- The state that `LoadOperand()` leaves. -/
def afterLoad (o : ReadOperand) (s : State) : State :=
  match o with
  | .imm _ => s
  | .mem m => afterMemRead m s

/-- The page-crossing cycle of a reading instruction (30_encoding.md R111). -/
def pageCycle (o : ReadOperand) (s : State) : Nat :=
  match o with
  | .imm _ => 0
  | .mem m => if pageCrossed m s then 1 else 0

/-- `LoadOperand()` of a read-modify-write instruction (30_encoding.md R105). -/
def rmwValue (o : RmwOperand) (s : State) : Byte :=
  match o with
  | .acc => s.a
  | .mem m => memValue m s

/-- `A <- r`. -/
def setA (r : Byte) (s : State) : State := { s with a := r }

/-- `LoadOperand()` then `StoreOperand(r)` of a read-modify-write instruction: one read, one write, at one address
(30_encoding.md R105, 20_memory.md R71). -/
def rmwStore (o : RmwOperand) (r : Byte) (s : State) : State :=
  match o with
  | .acc => setA r s
  | .mem m => busWrite (effAddr m s) r (afterMemRead m s)

/-- A reading instruction: load the operand, do `use` with it, advance by the length, pay the base cycles and the page cycle
(30_encoding.md R110, R111). -/
def readOp (o : ReadOperand) (base : Nat) (use : Byte → State → State) (s : State) :
    Host.Outcome State Fault Refusal :=
  .next (advance (readLength o) (base + pageCycle o s) (use (readValue o s) (afterLoad o s)))

/-- A store: the pointer reads, then one write; the address is not read (30_encoding.md R105), no page cycle (R111). -/
def storeOp (m : MemMode) (base : Nat) (b : Byte) (s : State) : Host.Outcome State Fault Refusal :=
  .next (advance (memLength m) base (busWrite (effAddr m s) b (afterPointer m s)))

/-- A read-modify-write instruction that changes the byte by `change` and then does `use` with the new byte. -/
def rmwOp (o : RmwOperand) (base : Nat) (change : Byte → Byte) (use : Byte → State → State) (s : State) :
    Host.Outcome State Fault Refusal :=
  let r := change (rmwValue o s)
  .next (advance (rmwLength o) base (use r (rmwStore o r s)))

/-- A shift or rotate of the operand, which also writes `C`, followed by `use` with the new byte (43_incdec_shift.md R186–R189). -/
def shiftOp (o : RmwOperand) (base : Nat) (shift : Byte → Bool → Byte × Bool) (use : Byte → State → State) (s : State) :
    Host.Outcome State Fault Refusal :=
  let out := shift (rmwValue o s) s.c
  .next (advance (rmwLength o) base (use out.1 (setC out.2 (rmwStore o out.1 s))))

/-- A one-byte instruction that only changes registers and flags. -/
def implied (cycles : Nat) (use : State → State) (s : State) : Host.Outcome State Fault Refusal :=
  .next (advance 1 cycles (use s))

end Sys2Proof.Machine
end

