-- ==== Sys2Proof/Machine/LoadStore.lean ====
section
/-! DEFINITION. Load and store (40_load_store.md R130–R135). One definition for each instruction over one shared operation for each
mnemonic; the base cycles of a row stand in its definition. -/

namespace Sys2Proof.Machine

/-- `A <- v; SetNZ(v)`. -/
def loadA (b : Byte) (s : State) : State := setNZ b { s with a := b }

/-- `X <- v; SetNZ(v)`. -/
def loadX (b : Byte) (s : State) : State := setNZ b { s with x := b }

/-- `Y <- v; SetNZ(v)`. -/
def loadY (b : Byte) (s : State) : State := setNZ b { s with y := b }

/-- `LDA` (R130). -/
def ldaOp (o : ReadOperand) (base : Nat) (s : State) : Host.Outcome State Fault Refusal :=
  readOp o base loadA s

/-- `LDA` IZX, `$A1`, 2 bytes, 6 cycles (R130). -/
def execLdaIzx (d8 : Byte) (s : State) : Host.Outcome State Fault Refusal := ldaOp (.mem (.izx d8)) 6 s

/-- `LDA` ZP, `$A5`, 2 bytes, 3 cycles (R130). -/
def execLdaZp (d8 : Byte) (s : State) : Host.Outcome State Fault Refusal := ldaOp (.mem (.zp d8)) 3 s

/-- `LDA` IMM, `$A9`, 2 bytes, 2 cycles (R130). -/
def execLdaImm (d8 : Byte) (s : State) : Host.Outcome State Fault Refusal := ldaOp (.imm d8) 2 s

/-- `LDA` ABS, `$AD`, 3 bytes, 4 cycles (R130). -/
def execLdaAbs (a16 : Addr) (s : State) : Host.Outcome State Fault Refusal := ldaOp (.mem (.abs a16)) 4 s

/-- `LDA` IZY, `$B1`, 2 bytes, 5+p cycles (R130). -/
def execLdaIzy (d8 : Byte) (s : State) : Host.Outcome State Fault Refusal := ldaOp (.mem (.izy d8)) 5 s

/-- `LDA` ZPX, `$B5`, 2 bytes, 4 cycles (R130). -/
def execLdaZpx (d8 : Byte) (s : State) : Host.Outcome State Fault Refusal := ldaOp (.mem (.zpx d8)) 4 s

/-- `LDA` ABY, `$B9`, 3 bytes, 4+p cycles (R130). -/
def execLdaAby (a16 : Addr) (s : State) : Host.Outcome State Fault Refusal := ldaOp (.mem (.aby a16)) 4 s

/-- `LDA` ABX, `$BD`, 3 bytes, 4+p cycles (R130). -/
def execLdaAbx (a16 : Addr) (s : State) : Host.Outcome State Fault Refusal := ldaOp (.mem (.abx a16)) 4 s

/-- `LDX` (R131). -/
def ldxOp (o : ReadOperand) (base : Nat) (s : State) : Host.Outcome State Fault Refusal :=
  readOp o base loadX s

/-- `LDX` IMM, `$A2`, 2 bytes, 2 cycles (R131). -/
def execLdxImm (d8 : Byte) (s : State) : Host.Outcome State Fault Refusal := ldxOp (.imm d8) 2 s

/-- `LDX` ZP, `$A6`, 2 bytes, 3 cycles (R131). -/
def execLdxZp (d8 : Byte) (s : State) : Host.Outcome State Fault Refusal := ldxOp (.mem (.zp d8)) 3 s

/-- `LDX` ABS, `$AE`, 3 bytes, 4 cycles (R131). -/
def execLdxAbs (a16 : Addr) (s : State) : Host.Outcome State Fault Refusal := ldxOp (.mem (.abs a16)) 4 s

/-- `LDX` ZPY, `$B6`, 2 bytes, 4 cycles (R131). -/
def execLdxZpy (d8 : Byte) (s : State) : Host.Outcome State Fault Refusal := ldxOp (.mem (.zpy d8)) 4 s

/-- `LDX` ABY, `$BE`, 3 bytes, 4+p cycles (R131). -/
def execLdxAby (a16 : Addr) (s : State) : Host.Outcome State Fault Refusal := ldxOp (.mem (.aby a16)) 4 s

/-- `LDY` (R132). -/
def ldyOp (o : ReadOperand) (base : Nat) (s : State) : Host.Outcome State Fault Refusal :=
  readOp o base loadY s

/-- `LDY` IMM, `$A0`, 2 bytes, 2 cycles (R132). -/
def execLdyImm (d8 : Byte) (s : State) : Host.Outcome State Fault Refusal := ldyOp (.imm d8) 2 s

/-- `LDY` ZP, `$A4`, 2 bytes, 3 cycles (R132). -/
def execLdyZp (d8 : Byte) (s : State) : Host.Outcome State Fault Refusal := ldyOp (.mem (.zp d8)) 3 s

/-- `LDY` ABS, `$AC`, 3 bytes, 4 cycles (R132). -/
def execLdyAbs (a16 : Addr) (s : State) : Host.Outcome State Fault Refusal := ldyOp (.mem (.abs a16)) 4 s

/-- `LDY` ZPX, `$B4`, 2 bytes, 4 cycles (R132). -/
def execLdyZpx (d8 : Byte) (s : State) : Host.Outcome State Fault Refusal := ldyOp (.mem (.zpx d8)) 4 s

/-- `LDY` ABX, `$BC`, 3 bytes, 4+p cycles (R132). -/
def execLdyAbx (a16 : Addr) (s : State) : Host.Outcome State Fault Refusal := ldyOp (.mem (.abx a16)) 4 s

/-- `STA` (R133). -/
def staOp (m : MemMode) (base : Nat) (s : State) : Host.Outcome State Fault Refusal :=
  storeOp m base s.a s

/-- `STA` IZX, `$81`, 2 bytes, 6 cycles (R133). -/
def execStaIzx (d8 : Byte) (s : State) : Host.Outcome State Fault Refusal := staOp (.izx d8) 6 s

/-- `STA` ZP, `$85`, 2 bytes, 3 cycles (R133). -/
def execStaZp (d8 : Byte) (s : State) : Host.Outcome State Fault Refusal := staOp (.zp d8) 3 s

/-- `STA` ABS, `$8D`, 3 bytes, 4 cycles (R133). -/
def execStaAbs (a16 : Addr) (s : State) : Host.Outcome State Fault Refusal := staOp (.abs a16) 4 s

/-- `STA` IZY, `$91`, 2 bytes, 6 cycles (R133). -/
def execStaIzy (d8 : Byte) (s : State) : Host.Outcome State Fault Refusal := staOp (.izy d8) 6 s

/-- `STA` ZPX, `$95`, 2 bytes, 4 cycles (R133). -/
def execStaZpx (d8 : Byte) (s : State) : Host.Outcome State Fault Refusal := staOp (.zpx d8) 4 s

/-- `STA` ABY, `$99`, 3 bytes, 5 cycles (R133). -/
def execStaAby (a16 : Addr) (s : State) : Host.Outcome State Fault Refusal := staOp (.aby a16) 5 s

/-- `STA` ABX, `$9D`, 3 bytes, 5 cycles (R133). -/
def execStaAbx (a16 : Addr) (s : State) : Host.Outcome State Fault Refusal := staOp (.abx a16) 5 s

/-- `STX` (R134). -/
def stxOp (m : MemMode) (base : Nat) (s : State) : Host.Outcome State Fault Refusal :=
  storeOp m base s.x s

/-- `STX` ZP, `$86`, 2 bytes, 3 cycles (R134). -/
def execStxZp (d8 : Byte) (s : State) : Host.Outcome State Fault Refusal := stxOp (.zp d8) 3 s

/-- `STX` ABS, `$8E`, 3 bytes, 4 cycles (R134). -/
def execStxAbs (a16 : Addr) (s : State) : Host.Outcome State Fault Refusal := stxOp (.abs a16) 4 s

/-- `STX` ZPY, `$96`, 2 bytes, 4 cycles (R134). -/
def execStxZpy (d8 : Byte) (s : State) : Host.Outcome State Fault Refusal := stxOp (.zpy d8) 4 s

/-- `STY` (R135). -/
def styOp (m : MemMode) (base : Nat) (s : State) : Host.Outcome State Fault Refusal :=
  storeOp m base s.y s

/-- `STY` ZP, `$84`, 2 bytes, 3 cycles (R135). -/
def execStyZp (d8 : Byte) (s : State) : Host.Outcome State Fault Refusal := styOp (.zp d8) 3 s

/-- `STY` ABS, `$8C`, 3 bytes, 4 cycles (R135). -/
def execStyAbs (a16 : Addr) (s : State) : Host.Outcome State Fault Refusal := styOp (.abs a16) 4 s

/-- `STY` ZPX, `$94`, 2 bytes, 4 cycles (R135). -/
def execStyZpx (d8 : Byte) (s : State) : Host.Outcome State Fault Refusal := styOp (.zpx d8) 4 s

end Sys2Proof.Machine
end

