-- ==== Sys2Proof/Machine/Alu.lean ====
section
/-! DEFINITION. Logic, addition and subtraction, compares (42_logic_arith.md R160–R173). -/

namespace Sys2Proof.Machine

/-- `A <- A & m; SetNZ(A)` (R160). -/
def andA (m : Byte) (s : State) : State := loadA (s.a &&& m) s

/-- `A <- A | m; SetNZ(A)` (R161). -/
def oraA (m : Byte) (s : State) : State := loadA (s.a ||| m) s

/-- `A <- A ^ m; SetNZ(A)` (R162). -/
def eorA (m : Byte) (s : State) : State := loadA (s.a ^^^ m) s

/-- `Z` from `A & m`, `N` and `V` from bits 7 and 6 of `m`; `A` stays (R163). -/
def bitTest (m : Byte) (s : State) : State :=
  { s with z := (s.a &&& m) == 0, n := m.getLsbD 7, v := m.getLsbD 6 }

/-- Add `m` and the carry to `A` (R165, R166). -/
def adcA (m : Byte) (s : State) : State := setAlu (adcOut s m) s

/-- Subtract `m` and the borrow from `A` (R167, R168). -/
def sbcA (m : Byte) (s : State) : State := setAlu (sbcOut s m) s

/-- Compare `A` with `m` (R170). -/
def cmpA (m : Byte) (s : State) : State := compareWith s.a m s

/-- Compare `X` with `m` (R171). -/
def cmpX (m : Byte) (s : State) : State := compareWith s.x m s

/-- Compare `Y` with `m` (R172). -/
def cmpY (m : Byte) (s : State) : State := compareWith s.y m s

/-- `AND` (R160). -/
def andOp (o : ReadOperand) (base : Nat) (s : State) : Host.Outcome State Fault Refusal :=
  readOp o base andA s

/-- `AND` IZX, `$21`, 2 bytes, 6 cycles (R160). -/
def execAndIzx (d8 : Byte) (s : State) : Host.Outcome State Fault Refusal := andOp (.mem (.izx d8)) 6 s

/-- `AND` ZP, `$25`, 2 bytes, 3 cycles (R160). -/
def execAndZp (d8 : Byte) (s : State) : Host.Outcome State Fault Refusal := andOp (.mem (.zp d8)) 3 s

/-- `AND` IMM, `$29`, 2 bytes, 2 cycles (R160). -/
def execAndImm (d8 : Byte) (s : State) : Host.Outcome State Fault Refusal := andOp (.imm d8) 2 s

/-- `AND` ABS, `$2D`, 3 bytes, 4 cycles (R160). -/
def execAndAbs (a16 : Addr) (s : State) : Host.Outcome State Fault Refusal := andOp (.mem (.abs a16)) 4 s

/-- `AND` IZY, `$31`, 2 bytes, 5+p cycles (R160). -/
def execAndIzy (d8 : Byte) (s : State) : Host.Outcome State Fault Refusal := andOp (.mem (.izy d8)) 5 s

/-- `AND` ZPX, `$35`, 2 bytes, 4 cycles (R160). -/
def execAndZpx (d8 : Byte) (s : State) : Host.Outcome State Fault Refusal := andOp (.mem (.zpx d8)) 4 s

/-- `AND` ABY, `$39`, 3 bytes, 4+p cycles (R160). -/
def execAndAby (a16 : Addr) (s : State) : Host.Outcome State Fault Refusal := andOp (.mem (.aby a16)) 4 s

/-- `AND` ABX, `$3D`, 3 bytes, 4+p cycles (R160). -/
def execAndAbx (a16 : Addr) (s : State) : Host.Outcome State Fault Refusal := andOp (.mem (.abx a16)) 4 s

/-- `ORA` (R161). -/
def oraOp (o : ReadOperand) (base : Nat) (s : State) : Host.Outcome State Fault Refusal :=
  readOp o base oraA s

/-- `ORA` IZX, `$01`, 2 bytes, 6 cycles (R161). -/
def execOraIzx (d8 : Byte) (s : State) : Host.Outcome State Fault Refusal := oraOp (.mem (.izx d8)) 6 s

/-- `ORA` ZP, `$05`, 2 bytes, 3 cycles (R161). -/
def execOraZp (d8 : Byte) (s : State) : Host.Outcome State Fault Refusal := oraOp (.mem (.zp d8)) 3 s

/-- `ORA` IMM, `$09`, 2 bytes, 2 cycles (R161). -/
def execOraImm (d8 : Byte) (s : State) : Host.Outcome State Fault Refusal := oraOp (.imm d8) 2 s

/-- `ORA` ABS, `$0D`, 3 bytes, 4 cycles (R161). -/
def execOraAbs (a16 : Addr) (s : State) : Host.Outcome State Fault Refusal := oraOp (.mem (.abs a16)) 4 s

/-- `ORA` IZY, `$11`, 2 bytes, 5+p cycles (R161). -/
def execOraIzy (d8 : Byte) (s : State) : Host.Outcome State Fault Refusal := oraOp (.mem (.izy d8)) 5 s

/-- `ORA` ZPX, `$15`, 2 bytes, 4 cycles (R161). -/
def execOraZpx (d8 : Byte) (s : State) : Host.Outcome State Fault Refusal := oraOp (.mem (.zpx d8)) 4 s

/-- `ORA` ABY, `$19`, 3 bytes, 4+p cycles (R161). -/
def execOraAby (a16 : Addr) (s : State) : Host.Outcome State Fault Refusal := oraOp (.mem (.aby a16)) 4 s

/-- `ORA` ABX, `$1D`, 3 bytes, 4+p cycles (R161). -/
def execOraAbx (a16 : Addr) (s : State) : Host.Outcome State Fault Refusal := oraOp (.mem (.abx a16)) 4 s

/-- `EOR` (R162). -/
def eorOp (o : ReadOperand) (base : Nat) (s : State) : Host.Outcome State Fault Refusal :=
  readOp o base eorA s

/-- `EOR` IZX, `$41`, 2 bytes, 6 cycles (R162). -/
def execEorIzx (d8 : Byte) (s : State) : Host.Outcome State Fault Refusal := eorOp (.mem (.izx d8)) 6 s

/-- `EOR` ZP, `$45`, 2 bytes, 3 cycles (R162). -/
def execEorZp (d8 : Byte) (s : State) : Host.Outcome State Fault Refusal := eorOp (.mem (.zp d8)) 3 s

/-- `EOR` IMM, `$49`, 2 bytes, 2 cycles (R162). -/
def execEorImm (d8 : Byte) (s : State) : Host.Outcome State Fault Refusal := eorOp (.imm d8) 2 s

/-- `EOR` ABS, `$4D`, 3 bytes, 4 cycles (R162). -/
def execEorAbs (a16 : Addr) (s : State) : Host.Outcome State Fault Refusal := eorOp (.mem (.abs a16)) 4 s

/-- `EOR` IZY, `$51`, 2 bytes, 5+p cycles (R162). -/
def execEorIzy (d8 : Byte) (s : State) : Host.Outcome State Fault Refusal := eorOp (.mem (.izy d8)) 5 s

/-- `EOR` ZPX, `$55`, 2 bytes, 4 cycles (R162). -/
def execEorZpx (d8 : Byte) (s : State) : Host.Outcome State Fault Refusal := eorOp (.mem (.zpx d8)) 4 s

/-- `EOR` ABY, `$59`, 3 bytes, 4+p cycles (R162). -/
def execEorAby (a16 : Addr) (s : State) : Host.Outcome State Fault Refusal := eorOp (.mem (.aby a16)) 4 s

/-- `EOR` ABX, `$5D`, 3 bytes, 4+p cycles (R162). -/
def execEorAbx (a16 : Addr) (s : State) : Host.Outcome State Fault Refusal := eorOp (.mem (.abx a16)) 4 s

/-- `BIT` (R163): memory modes only. -/
def bitOp (m : MemMode) (base : Nat) (s : State) : Host.Outcome State Fault Refusal :=
  readOp (.mem m) base bitTest s

/-- `BIT` ZP, `$24`, 2 bytes, 3 cycles (R163). -/
def execBitZp (d8 : Byte) (s : State) : Host.Outcome State Fault Refusal := bitOp (.zp d8) 3 s

/-- `BIT` ABS, `$2C`, 3 bytes, 4 cycles (R163). -/
def execBitAbs (a16 : Addr) (s : State) : Host.Outcome State Fault Refusal := bitOp (.abs a16) 4 s

/-- `ADC` (R165, R166). -/
def adcOp (o : ReadOperand) (base : Nat) (s : State) : Host.Outcome State Fault Refusal :=
  readOp o base adcA s

/-- `ADC` IZX, `$61`, 2 bytes, 6 cycles (R165). -/
def execAdcIzx (d8 : Byte) (s : State) : Host.Outcome State Fault Refusal := adcOp (.mem (.izx d8)) 6 s

/-- `ADC` ZP, `$65`, 2 bytes, 3 cycles (R165). -/
def execAdcZp (d8 : Byte) (s : State) : Host.Outcome State Fault Refusal := adcOp (.mem (.zp d8)) 3 s

/-- `ADC` IMM, `$69`, 2 bytes, 2 cycles (R165). -/
def execAdcImm (d8 : Byte) (s : State) : Host.Outcome State Fault Refusal := adcOp (.imm d8) 2 s

/-- `ADC` ABS, `$6D`, 3 bytes, 4 cycles (R165). -/
def execAdcAbs (a16 : Addr) (s : State) : Host.Outcome State Fault Refusal := adcOp (.mem (.abs a16)) 4 s

/-- `ADC` IZY, `$71`, 2 bytes, 5+p cycles (R165). -/
def execAdcIzy (d8 : Byte) (s : State) : Host.Outcome State Fault Refusal := adcOp (.mem (.izy d8)) 5 s

/-- `ADC` ZPX, `$75`, 2 bytes, 4 cycles (R165). -/
def execAdcZpx (d8 : Byte) (s : State) : Host.Outcome State Fault Refusal := adcOp (.mem (.zpx d8)) 4 s

/-- `ADC` ABY, `$79`, 3 bytes, 4+p cycles (R165). -/
def execAdcAby (a16 : Addr) (s : State) : Host.Outcome State Fault Refusal := adcOp (.mem (.aby a16)) 4 s

/-- `ADC` ABX, `$7D`, 3 bytes, 4+p cycles (R165). -/
def execAdcAbx (a16 : Addr) (s : State) : Host.Outcome State Fault Refusal := adcOp (.mem (.abx a16)) 4 s

/-- `SBC` (R167, R168). -/
def sbcOp (o : ReadOperand) (base : Nat) (s : State) : Host.Outcome State Fault Refusal :=
  readOp o base sbcA s

/-- `SBC` IZX, `$E1`, 2 bytes, 6 cycles (R167). -/
def execSbcIzx (d8 : Byte) (s : State) : Host.Outcome State Fault Refusal := sbcOp (.mem (.izx d8)) 6 s

/-- `SBC` ZP, `$E5`, 2 bytes, 3 cycles (R167). -/
def execSbcZp (d8 : Byte) (s : State) : Host.Outcome State Fault Refusal := sbcOp (.mem (.zp d8)) 3 s

/-- `SBC` IMM, `$E9`, 2 bytes, 2 cycles (R167). -/
def execSbcImm (d8 : Byte) (s : State) : Host.Outcome State Fault Refusal := sbcOp (.imm d8) 2 s

/-- `SBC` ABS, `$ED`, 3 bytes, 4 cycles (R167). -/
def execSbcAbs (a16 : Addr) (s : State) : Host.Outcome State Fault Refusal := sbcOp (.mem (.abs a16)) 4 s

/-- `SBC` IZY, `$F1`, 2 bytes, 5+p cycles (R167). -/
def execSbcIzy (d8 : Byte) (s : State) : Host.Outcome State Fault Refusal := sbcOp (.mem (.izy d8)) 5 s

/-- `SBC` ZPX, `$F5`, 2 bytes, 4 cycles (R167). -/
def execSbcZpx (d8 : Byte) (s : State) : Host.Outcome State Fault Refusal := sbcOp (.mem (.zpx d8)) 4 s

/-- `SBC` ABY, `$F9`, 3 bytes, 4+p cycles (R167). -/
def execSbcAby (a16 : Addr) (s : State) : Host.Outcome State Fault Refusal := sbcOp (.mem (.aby a16)) 4 s

/-- `SBC` ABX, `$FD`, 3 bytes, 4+p cycles (R167). -/
def execSbcAbx (a16 : Addr) (s : State) : Host.Outcome State Fault Refusal := sbcOp (.mem (.abx a16)) 4 s

/-- `CMP` (R170). -/
def cmpOp (o : ReadOperand) (base : Nat) (s : State) : Host.Outcome State Fault Refusal :=
  readOp o base cmpA s

/-- `CMP` IZX, `$C1`, 2 bytes, 6 cycles (R170). -/
def execCmpIzx (d8 : Byte) (s : State) : Host.Outcome State Fault Refusal := cmpOp (.mem (.izx d8)) 6 s

/-- `CMP` ZP, `$C5`, 2 bytes, 3 cycles (R170). -/
def execCmpZp (d8 : Byte) (s : State) : Host.Outcome State Fault Refusal := cmpOp (.mem (.zp d8)) 3 s

/-- `CMP` IMM, `$C9`, 2 bytes, 2 cycles (R170). -/
def execCmpImm (d8 : Byte) (s : State) : Host.Outcome State Fault Refusal := cmpOp (.imm d8) 2 s

/-- `CMP` ABS, `$CD`, 3 bytes, 4 cycles (R170). -/
def execCmpAbs (a16 : Addr) (s : State) : Host.Outcome State Fault Refusal := cmpOp (.mem (.abs a16)) 4 s

/-- `CMP` IZY, `$D1`, 2 bytes, 5+p cycles (R170). -/
def execCmpIzy (d8 : Byte) (s : State) : Host.Outcome State Fault Refusal := cmpOp (.mem (.izy d8)) 5 s

/-- `CMP` ZPX, `$D5`, 2 bytes, 4 cycles (R170). -/
def execCmpZpx (d8 : Byte) (s : State) : Host.Outcome State Fault Refusal := cmpOp (.mem (.zpx d8)) 4 s

/-- `CMP` ABY, `$D9`, 3 bytes, 4+p cycles (R170). -/
def execCmpAby (a16 : Addr) (s : State) : Host.Outcome State Fault Refusal := cmpOp (.mem (.aby a16)) 4 s

/-- `CMP` ABX, `$DD`, 3 bytes, 4+p cycles (R170). -/
def execCmpAbx (a16 : Addr) (s : State) : Host.Outcome State Fault Refusal := cmpOp (.mem (.abx a16)) 4 s

/-- `CPX` (R171). -/
def cpxOp (o : ReadOperand) (base : Nat) (s : State) : Host.Outcome State Fault Refusal :=
  readOp o base cmpX s

/-- `CPX` IMM, `$E0`, 2 bytes, 2 cycles (R171). -/
def execCpxImm (d8 : Byte) (s : State) : Host.Outcome State Fault Refusal := cpxOp (.imm d8) 2 s

/-- `CPX` ZP, `$E4`, 2 bytes, 3 cycles (R171). -/
def execCpxZp (d8 : Byte) (s : State) : Host.Outcome State Fault Refusal := cpxOp (.mem (.zp d8)) 3 s

/-- `CPX` ABS, `$EC`, 3 bytes, 4 cycles (R171). -/
def execCpxAbs (a16 : Addr) (s : State) : Host.Outcome State Fault Refusal := cpxOp (.mem (.abs a16)) 4 s

/-- `CPY` (R172). -/
def cpyOp (o : ReadOperand) (base : Nat) (s : State) : Host.Outcome State Fault Refusal :=
  readOp o base cmpY s

/-- `CPY` IMM, `$C0`, 2 bytes, 2 cycles (R172). -/
def execCpyImm (d8 : Byte) (s : State) : Host.Outcome State Fault Refusal := cpyOp (.imm d8) 2 s

/-- `CPY` ZP, `$C4`, 2 bytes, 3 cycles (R172). -/
def execCpyZp (d8 : Byte) (s : State) : Host.Outcome State Fault Refusal := cpyOp (.mem (.zp d8)) 3 s

/-- `CPY` ABS, `$CC`, 3 bytes, 4 cycles (R172). -/
def execCpyAbs (a16 : Addr) (s : State) : Host.Outcome State Fault Refusal := cpyOp (.mem (.abs a16)) 4 s

end Sys2Proof.Machine
end

