-- ==== Sys2Proof/Machine/Control.lean ====
section
/-! DEFINITION. Jumps, subroutines and branches (44_control.md R200–R212). -/

namespace Sys2Proof.Machine

/-- `JMP` ABS, `$4C`, 3 bytes, 3 cycles (R200). -/
def execJmpAbs (a16 : Addr) (s : State) : Host.Outcome State Fault Refusal := .next (jumpTo a16 3 s)

/-- The address of the pointer's high byte: the next address in the same page (R201, 30_encoding.md R101). -/
def indHighAddr (a16 : Addr) : Addr := cat (hi a16) (lo a16 + 1)

/-- The pointer that `JMP` indirect reads, low byte first (R201). -/
def indPointer (a16 : Addr) (s : State) : Addr :=
  cat (busRead (indHighAddr a16) (afterRead a16 s)) (busRead a16 s)

/-- `JMP` IND, `$6C`, 3 bytes, 5 cycles (R201). -/
def execJmpInd (a16 : Addr) (s : State) : Host.Outcome State Fault Refusal :=
  .next (jumpTo (indPointer a16 s) 5 (afterRead (indHighAddr a16) (afterRead a16 s)))

/-- `Push(hi(r)); Push(lo(r))` with `r` the address of the last byte of the `JSR` (R202). -/
def pushReturn (s : State) : State := push (lo (s.pc + 2)) (push (hi (s.pc + 2)) s)

/-- `JSR` ABS, `$20`, 3 bytes, 6 cycles (R202). -/
def execJsr (a16 : Addr) (s : State) : Host.Outcome State Fault Refusal := .next (jumpTo a16 6 (pushReturn s))

/-- `RTS` IMP, `$60`, 1 byte, 6 cycles (R203). -/
def execRts (s : State) : Host.Outcome State Fault Refusal :=
  let t := afterPull s
  .next (jumpTo (cat (pullByte t) (pullByte s) + 1) 6 (afterPull t))

/-- The target of a branch: the instruction after it, plus the signed offset (R204, 30_encoding.md R104). -/
def branchTarget (d8 : Byte) (s : State) : Addr := s.pc + 2 + sext16 d8

/-- The cycles of a taken branch: 3, or 4 if the target is on another page than the instruction after the branch (R204). -/
def takenCycles (d8 : Byte) (s : State) : Nat :=
  if hi (branchTarget d8 s) != hi (s.pc + 2) then 4 else 3

/-- The rule all eight branches share (R204). -/
def branchOp (cond : Bool) (d8 : Byte) (s : State) : Host.Outcome State Fault Refusal :=
  .next (if cond then jumpTo (branchTarget d8 s) (takenCycles d8 s) s else jumpTo (s.pc + 2) 2 s)

/-- `BCC` REL, `$90`, 2 bytes, 2+b cycles (R205). -/
def execBcc (d8 : Byte) (s : State) : Host.Outcome State Fault Refusal := branchOp (!s.c) d8 s

/-- `BCS` REL, `$B0`, 2 bytes, 2+b cycles (R206). -/
def execBcs (d8 : Byte) (s : State) : Host.Outcome State Fault Refusal := branchOp s.c d8 s

/-- `BEQ` REL, `$F0`, 2 bytes, 2+b cycles (R207). -/
def execBeq (d8 : Byte) (s : State) : Host.Outcome State Fault Refusal := branchOp s.z d8 s

/-- `BNE` REL, `$D0`, 2 bytes, 2+b cycles (R208). -/
def execBne (d8 : Byte) (s : State) : Host.Outcome State Fault Refusal := branchOp (!s.z) d8 s

/-- `BMI` REL, `$30`, 2 bytes, 2+b cycles (R209). -/
def execBmi (d8 : Byte) (s : State) : Host.Outcome State Fault Refusal := branchOp s.n d8 s

/-- `BPL` REL, `$10`, 2 bytes, 2+b cycles (R210). -/
def execBpl (d8 : Byte) (s : State) : Host.Outcome State Fault Refusal := branchOp (!s.n) d8 s

/-- `BVC` REL, `$50`, 2 bytes, 2+b cycles (R211). -/
def execBvc (d8 : Byte) (s : State) : Host.Outcome State Fault Refusal := branchOp (!s.v) d8 s

/-- `BVS` REL, `$70`, 2 bytes, 2+b cycles (R212). -/
def execBvs (d8 : Byte) (s : State) : Host.Outcome State Fault Refusal := branchOp s.v d8 s

end Sys2Proof.Machine
end

