-- ==== Sys2Proof/Machine/IncShift.lean ====
section
/-! DEFINITION. Increments, decrements, shifts and rotates (43_incdec_shift.md R180–R189). -/

namespace Sys2Proof.Machine

/-- `INC` (R180). -/
def incOp (m : MemMode) (base : Nat) (s : State) : Host.Outcome State Fault Refusal :=
  rmwOp (.mem m) base (fun b => b + 1) setNZ s

/-- `INC` ZP, `$E6`, 2 bytes, 5 cycles (R180). -/
def execIncZp (d8 : Byte) (s : State) : Host.Outcome State Fault Refusal := incOp (.zp d8) 5 s

/-- `INC` ABS, `$EE`, 3 bytes, 6 cycles (R180). -/
def execIncAbs (a16 : Addr) (s : State) : Host.Outcome State Fault Refusal := incOp (.abs a16) 6 s

/-- `INC` ZPX, `$F6`, 2 bytes, 6 cycles (R180). -/
def execIncZpx (d8 : Byte) (s : State) : Host.Outcome State Fault Refusal := incOp (.zpx d8) 6 s

/-- `INC` ABX, `$FE`, 3 bytes, 7 cycles (R180). -/
def execIncAbx (a16 : Addr) (s : State) : Host.Outcome State Fault Refusal := incOp (.abx a16) 7 s

/-- `INX` IMP, `$E8`, 1 byte, 2 cycles (R181). -/
def execInx (s : State) : Host.Outcome State Fault Refusal := implied 2 (loadX (s.x + 1)) s

/-- `INY` IMP, `$C8`, 1 byte, 2 cycles (R182). -/
def execIny (s : State) : Host.Outcome State Fault Refusal := implied 2 (loadY (s.y + 1)) s

/-- `DEC` (R183). -/
def decOp (m : MemMode) (base : Nat) (s : State) : Host.Outcome State Fault Refusal :=
  rmwOp (.mem m) base (fun b => b - 1) setNZ s

/-- `DEC` ZP, `$C6`, 2 bytes, 5 cycles (R183). -/
def execDecZp (d8 : Byte) (s : State) : Host.Outcome State Fault Refusal := decOp (.zp d8) 5 s

/-- `DEC` ABS, `$CE`, 3 bytes, 6 cycles (R183). -/
def execDecAbs (a16 : Addr) (s : State) : Host.Outcome State Fault Refusal := decOp (.abs a16) 6 s

/-- `DEC` ZPX, `$D6`, 2 bytes, 6 cycles (R183). -/
def execDecZpx (d8 : Byte) (s : State) : Host.Outcome State Fault Refusal := decOp (.zpx d8) 6 s

/-- `DEC` ABX, `$DE`, 3 bytes, 7 cycles (R183). -/
def execDecAbx (a16 : Addr) (s : State) : Host.Outcome State Fault Refusal := decOp (.abx a16) 7 s

/-- `DEX` IMP, `$CA`, 1 byte, 2 cycles (R184). -/
def execDex (s : State) : Host.Outcome State Fault Refusal := implied 2 (loadX (s.x - 1)) s

/-- `DEY` IMP, `$88`, 1 byte, 2 cycles (R185). -/
def execDey (s : State) : Host.Outcome State Fault Refusal := implied 2 (loadY (s.y - 1)) s

/-- `ASL` (R186). -/
def aslOp (o : RmwOperand) (base : Nat) (s : State) : Host.Outcome State Fault Refusal :=
  shiftOp o base shiftLeft setNZ s

/-- `ASL` ZP, `$06`, 2 bytes, 5 cycles (R186). -/
def execAslZp (d8 : Byte) (s : State) : Host.Outcome State Fault Refusal := aslOp (.mem (.zp d8)) 5 s

/-- `ASL` ACC, `$0A`, 1 byte, 2 cycles (R186). -/
def execAslAcc (s : State) : Host.Outcome State Fault Refusal := aslOp .acc 2 s

/-- `ASL` ABS, `$0E`, 3 bytes, 6 cycles (R186). -/
def execAslAbs (a16 : Addr) (s : State) : Host.Outcome State Fault Refusal := aslOp (.mem (.abs a16)) 6 s

/-- `ASL` ZPX, `$16`, 2 bytes, 6 cycles (R186). -/
def execAslZpx (d8 : Byte) (s : State) : Host.Outcome State Fault Refusal := aslOp (.mem (.zpx d8)) 6 s

/-- `ASL` ABX, `$1E`, 3 bytes, 7 cycles (R186). -/
def execAslAbx (a16 : Addr) (s : State) : Host.Outcome State Fault Refusal := aslOp (.mem (.abx a16)) 7 s

/-- `LSR` (R187). -/
def lsrOp (o : RmwOperand) (base : Nat) (s : State) : Host.Outcome State Fault Refusal :=
  shiftOp o base shiftRight setNZ s

/-- `LSR` ZP, `$46`, 2 bytes, 5 cycles (R187). -/
def execLsrZp (d8 : Byte) (s : State) : Host.Outcome State Fault Refusal := lsrOp (.mem (.zp d8)) 5 s

/-- `LSR` ACC, `$4A`, 1 byte, 2 cycles (R187). -/
def execLsrAcc (s : State) : Host.Outcome State Fault Refusal := lsrOp .acc 2 s

/-- `LSR` ABS, `$4E`, 3 bytes, 6 cycles (R187). -/
def execLsrAbs (a16 : Addr) (s : State) : Host.Outcome State Fault Refusal := lsrOp (.mem (.abs a16)) 6 s

/-- `LSR` ZPX, `$56`, 2 bytes, 6 cycles (R187). -/
def execLsrZpx (d8 : Byte) (s : State) : Host.Outcome State Fault Refusal := lsrOp (.mem (.zpx d8)) 6 s

/-- `LSR` ABX, `$5E`, 3 bytes, 7 cycles (R187). -/
def execLsrAbx (a16 : Addr) (s : State) : Host.Outcome State Fault Refusal := lsrOp (.mem (.abx a16)) 7 s

/-- `ROL` (R188). -/
def rolOp (o : RmwOperand) (base : Nat) (s : State) : Host.Outcome State Fault Refusal :=
  shiftOp o base rotateLeft setNZ s

/-- `ROL` ZP, `$26`, 2 bytes, 5 cycles (R188). -/
def execRolZp (d8 : Byte) (s : State) : Host.Outcome State Fault Refusal := rolOp (.mem (.zp d8)) 5 s

/-- `ROL` ACC, `$2A`, 1 byte, 2 cycles (R188). -/
def execRolAcc (s : State) : Host.Outcome State Fault Refusal := rolOp .acc 2 s

/-- `ROL` ABS, `$2E`, 3 bytes, 6 cycles (R188). -/
def execRolAbs (a16 : Addr) (s : State) : Host.Outcome State Fault Refusal := rolOp (.mem (.abs a16)) 6 s

/-- `ROL` ZPX, `$36`, 2 bytes, 6 cycles (R188). -/
def execRolZpx (d8 : Byte) (s : State) : Host.Outcome State Fault Refusal := rolOp (.mem (.zpx d8)) 6 s

/-- `ROL` ABX, `$3E`, 3 bytes, 7 cycles (R188). -/
def execRolAbx (a16 : Addr) (s : State) : Host.Outcome State Fault Refusal := rolOp (.mem (.abx a16)) 7 s

/-- `ROR` (R189). -/
def rorOp (o : RmwOperand) (base : Nat) (s : State) : Host.Outcome State Fault Refusal :=
  shiftOp o base rotateRight setNZ s

/-- `ROR` ZP, `$66`, 2 bytes, 5 cycles (R189). -/
def execRorZp (d8 : Byte) (s : State) : Host.Outcome State Fault Refusal := rorOp (.mem (.zp d8)) 5 s

/-- `ROR` ACC, `$6A`, 1 byte, 2 cycles (R189). -/
def execRorAcc (s : State) : Host.Outcome State Fault Refusal := rorOp .acc 2 s

/-- `ROR` ABS, `$6E`, 3 bytes, 6 cycles (R189). -/
def execRorAbs (a16 : Addr) (s : State) : Host.Outcome State Fault Refusal := rorOp (.mem (.abs a16)) 6 s

/-- `ROR` ZPX, `$76`, 2 bytes, 6 cycles (R189). -/
def execRorZpx (d8 : Byte) (s : State) : Host.Outcome State Fault Refusal := rorOp (.mem (.zpx d8)) 6 s

/-- `ROR` ABX, `$7E`, 3 bytes, 7 cycles (R189). -/
def execRorAbx (a16 : Addr) (s : State) : Host.Outcome State Fault Refusal := rorOp (.mem (.abx a16)) 7 s

end Sys2Proof.Machine
end

