-- ==== Sys2Proof/Machine/System.lean ====
section
/-! DEFINITION. Flag instructions, `NOP`, `BRK`, `RTI` (45_flags_system.md R220–R229). -/

namespace Sys2Proof.Machine

/-- `CLC` IMP, `$18`, 1 byte, 2 cycles (R220). -/
def execClc (s : State) : Host.Outcome State Fault Refusal := implied 2 (setC false) s

/-- `SEC` IMP, `$38`, 1 byte, 2 cycles (R221). -/
def execSec (s : State) : Host.Outcome State Fault Refusal := implied 2 (setC true) s

/-- `CLI` IMP, `$58`, 1 byte, 2 cycles (R222). -/
def execCli (s : State) : Host.Outcome State Fault Refusal := implied 2 (setI false) s

/-- `SEI` IMP, `$78`, 1 byte, 2 cycles (R223). -/
def execSei (s : State) : Host.Outcome State Fault Refusal := implied 2 (setI true) s

/-- `CLD` IMP, `$D8`, 1 byte, 2 cycles (R224). -/
def execCld (s : State) : Host.Outcome State Fault Refusal := implied 2 (setD false) s

/-- `SED` IMP, `$F8`, 1 byte, 2 cycles (R225). -/
def execSed (s : State) : Host.Outcome State Fault Refusal := implied 2 (setD true) s

/-- `CLV` IMP, `$B8`, 1 byte, 2 cycles (R226). -/
def execClv (s : State) : Host.Outcome State Fault Refusal := implied 2 (setV false) s

/-- `NOP` IMP, `$EA`, 1 byte, 2 cycles (R227). -/
def execNop (s : State) : Host.Outcome State Fault Refusal := implied 2 id s

/-- `BRK` IMP, `$00`, 1 byte, 7 cycles (R228). -/
def execBrk (s : State) : Host.Outcome State Fault Refusal := .next (takeException (s.pc + 2) true vecIrq s)

/-- `RTI` IMP, `$40`, 1 byte, 6 cycles (R229). -/
def execRti (s : State) : Host.Outcome State Fault Refusal := .next (returnFromException s)

end Sys2Proof.Machine
end

