-- ==== Sys2Proof/Machine/Transfer.lean ====
section
/-! DEFINITION. Register transfers and the stack instructions (41_transfer_stack.md R140–R149). -/

namespace Sys2Proof.Machine

/-- `TAX` IMP, `$AA`, 1 byte, 2 cycles (R140). -/
def execTax (s : State) : Host.Outcome State Fault Refusal := implied 2 (loadX s.a) s

/-- `TAY` IMP, `$A8`, 1 byte, 2 cycles (R141). -/
def execTay (s : State) : Host.Outcome State Fault Refusal := implied 2 (loadY s.a) s

/-- `TXA` IMP, `$8A`, 1 byte, 2 cycles (R142). -/
def execTxa (s : State) : Host.Outcome State Fault Refusal := implied 2 (loadA s.x) s

/-- `TYA` IMP, `$98`, 1 byte, 2 cycles (R143). -/
def execTya (s : State) : Host.Outcome State Fault Refusal := implied 2 (loadA s.y) s

/-- `TSX` IMP, `$BA`, 1 byte, 2 cycles (R144). -/
def execTsx (s : State) : Host.Outcome State Fault Refusal := implied 2 (loadX s.sp) s

/-- `SP <- X`, the one transfer that leaves `N` and `Z` alone (R145). -/
def setSpFromX (s : State) : State := { s with sp := s.x }

/-- `TXS` IMP, `$9A`, 1 byte, 2 cycles (R145). -/
def execTxs (s : State) : Host.Outcome State Fault Refusal := implied 2 setSpFromX s

/-- `PHA` IMP, `$48`, 1 byte, 3 cycles (R146). -/
def execPha (s : State) : Host.Outcome State Fault Refusal := implied 3 (push s.a) s

/-- `PHP` IMP, `$08`, 1 byte, 3 cycles (R147). -/
def execPhp (s : State) : Host.Outcome State Fault Refusal := implied 3 (push (pByte true s)) s

/-- `A <- Pull(); SetNZ(A)` (R148). -/
def pullA (s : State) : State := loadA (pullByte s) (afterPull s)

/-- `PLA` IMP, `$68`, 1 byte, 4 cycles (R148). -/
def execPla (s : State) : Host.Outcome State Fault Refusal := implied 4 pullA s

/-- `SetP(Pull())` (R149). -/
def pullP (s : State) : State := setP (pullByte s) (afterPull s)

/-- `PLP` IMP, `$28`, 1 byte, 4 cycles (R149). -/
def execPlp (s : State) : Host.Outcome State Fault Refusal := implied 4 pullP s

end Sys2Proof.Machine
end

