-- ==== Sys2Proof/Machine/Undoc.lean ====
section
/-! DEFINITION. The optional composites (46_undocumented.md R240–R248), in the table only under `UNDOC_SET = common`. -/

namespace Sys2Proof.Machine

/-- `A <- v; X <- v; SetNZ(v)` (R241). -/
def loadAX (b : Byte) (s : State) : State := setNZ b { s with a := b, x := b }

/-- `LAX` (R241). -/
def laxOp (m : MemMode) (base : Nat) (s : State) : Host.Outcome State Fault Refusal :=
  readOp (.mem m) base loadAX s

/-- `LAX` ZP, `$A7`, 2 bytes, 3 cycles (R241). -/
def execLaxZp (d8 : Byte) (s : State) : Host.Outcome State Fault Refusal := laxOp (.zp d8) 3 s

/-- `LAX` ZPY, `$B7`, 2 bytes, 4 cycles (R241). -/
def execLaxZpy (d8 : Byte) (s : State) : Host.Outcome State Fault Refusal := laxOp (.zpy d8) 4 s

/-- `LAX` ABS, `$AF`, 3 bytes, 4 cycles (R241). -/
def execLaxAbs (a16 : Addr) (s : State) : Host.Outcome State Fault Refusal := laxOp (.abs a16) 4 s

/-- `LAX` ABY, `$BF`, 3 bytes, 4+p cycles (R241). -/
def execLaxAby (a16 : Addr) (s : State) : Host.Outcome State Fault Refusal := laxOp (.aby a16) 4 s

/-- `LAX` IZX, `$A3`, 2 bytes, 6 cycles (R241). -/
def execLaxIzx (d8 : Byte) (s : State) : Host.Outcome State Fault Refusal := laxOp (.izx d8) 6 s

/-- `LAX` IZY, `$B3`, 2 bytes, 5+p cycles (R241). -/
def execLaxIzy (d8 : Byte) (s : State) : Host.Outcome State Fault Refusal := laxOp (.izy d8) 5 s

/-- `SAX` (R242). -/
def saxOp (m : MemMode) (base : Nat) (s : State) : Host.Outcome State Fault Refusal :=
  storeOp m base (s.a &&& s.x) s

/-- `SAX` ZP, `$87`, 2 bytes, 3 cycles (R242). -/
def execSaxZp (d8 : Byte) (s : State) : Host.Outcome State Fault Refusal := saxOp (.zp d8) 3 s

/-- `SAX` ZPY, `$97`, 2 bytes, 4 cycles (R242). -/
def execSaxZpy (d8 : Byte) (s : State) : Host.Outcome State Fault Refusal := saxOp (.zpy d8) 4 s

/-- `SAX` ABS, `$8F`, 3 bytes, 4 cycles (R242). -/
def execSaxAbs (a16 : Addr) (s : State) : Host.Outcome State Fault Refusal := saxOp (.abs a16) 4 s

/-- `SAX` IZX, `$83`, 2 bytes, 6 cycles (R242). -/
def execSaxIzx (d8 : Byte) (s : State) : Host.Outcome State Fault Refusal := saxOp (.izx d8) 6 s

/-- `DCP` (R243): `DEC`, then `CMP`. -/
def dcpOp (m : MemMode) (base : Nat) (s : State) : Host.Outcome State Fault Refusal :=
  rmwOp (.mem m) base (fun b => b - 1) cmpA s

/-- `DCP` ZP, `$C7`, 2 bytes, 5 cycles (R243). -/
def execDcpZp (d8 : Byte) (s : State) : Host.Outcome State Fault Refusal := dcpOp (.zp d8) 5 s

/-- `DCP` ZPX, `$D7`, 2 bytes, 6 cycles (R243). -/
def execDcpZpx (d8 : Byte) (s : State) : Host.Outcome State Fault Refusal := dcpOp (.zpx d8) 6 s

/-- `DCP` ABS, `$CF`, 3 bytes, 6 cycles (R243). -/
def execDcpAbs (a16 : Addr) (s : State) : Host.Outcome State Fault Refusal := dcpOp (.abs a16) 6 s

/-- `DCP` ABX, `$DF`, 3 bytes, 7 cycles (R243). -/
def execDcpAbx (a16 : Addr) (s : State) : Host.Outcome State Fault Refusal := dcpOp (.abx a16) 7 s

/-- `DCP` ABY, `$DB`, 3 bytes, 7 cycles (R243). -/
def execDcpAby (a16 : Addr) (s : State) : Host.Outcome State Fault Refusal := dcpOp (.aby a16) 7 s

/-- `DCP` IZX, `$C3`, 2 bytes, 8 cycles (R243). -/
def execDcpIzx (d8 : Byte) (s : State) : Host.Outcome State Fault Refusal := dcpOp (.izx d8) 8 s

/-- `DCP` IZY, `$D3`, 2 bytes, 8 cycles (R243). -/
def execDcpIzy (d8 : Byte) (s : State) : Host.Outcome State Fault Refusal := dcpOp (.izy d8) 8 s

/-- `ISC` (R244): `INC`, then `SBC`. -/
def iscOp (m : MemMode) (base : Nat) (s : State) : Host.Outcome State Fault Refusal :=
  rmwOp (.mem m) base (fun b => b + 1) sbcA s

/-- `ISC` ZP, `$E7`, 2 bytes, 5 cycles (R244). -/
def execIscZp (d8 : Byte) (s : State) : Host.Outcome State Fault Refusal := iscOp (.zp d8) 5 s

/-- `ISC` ZPX, `$F7`, 2 bytes, 6 cycles (R244). -/
def execIscZpx (d8 : Byte) (s : State) : Host.Outcome State Fault Refusal := iscOp (.zpx d8) 6 s

/-- `ISC` ABS, `$EF`, 3 bytes, 6 cycles (R244). -/
def execIscAbs (a16 : Addr) (s : State) : Host.Outcome State Fault Refusal := iscOp (.abs a16) 6 s

/-- `ISC` ABX, `$FF`, 3 bytes, 7 cycles (R244). -/
def execIscAbx (a16 : Addr) (s : State) : Host.Outcome State Fault Refusal := iscOp (.abx a16) 7 s

/-- `ISC` ABY, `$FB`, 3 bytes, 7 cycles (R244). -/
def execIscAby (a16 : Addr) (s : State) : Host.Outcome State Fault Refusal := iscOp (.aby a16) 7 s

/-- `ISC` IZX, `$E3`, 2 bytes, 8 cycles (R244). -/
def execIscIzx (d8 : Byte) (s : State) : Host.Outcome State Fault Refusal := iscOp (.izx d8) 8 s

/-- `ISC` IZY, `$F3`, 2 bytes, 8 cycles (R244). -/
def execIscIzy (d8 : Byte) (s : State) : Host.Outcome State Fault Refusal := iscOp (.izy d8) 8 s

/-- `SLO` (R245): `ASL`, then `ORA`. -/
def sloOp (m : MemMode) (base : Nat) (s : State) : Host.Outcome State Fault Refusal :=
  shiftOp (.mem m) base shiftLeft oraA s

/-- `SLO` ZP, `$07`, 2 bytes, 5 cycles (R245). -/
def execSloZp (d8 : Byte) (s : State) : Host.Outcome State Fault Refusal := sloOp (.zp d8) 5 s

/-- `SLO` ZPX, `$17`, 2 bytes, 6 cycles (R245). -/
def execSloZpx (d8 : Byte) (s : State) : Host.Outcome State Fault Refusal := sloOp (.zpx d8) 6 s

/-- `SLO` ABS, `$0F`, 3 bytes, 6 cycles (R245). -/
def execSloAbs (a16 : Addr) (s : State) : Host.Outcome State Fault Refusal := sloOp (.abs a16) 6 s

/-- `SLO` ABX, `$1F`, 3 bytes, 7 cycles (R245). -/
def execSloAbx (a16 : Addr) (s : State) : Host.Outcome State Fault Refusal := sloOp (.abx a16) 7 s

/-- `SLO` ABY, `$1B`, 3 bytes, 7 cycles (R245). -/
def execSloAby (a16 : Addr) (s : State) : Host.Outcome State Fault Refusal := sloOp (.aby a16) 7 s

/-- `SLO` IZX, `$03`, 2 bytes, 8 cycles (R245). -/
def execSloIzx (d8 : Byte) (s : State) : Host.Outcome State Fault Refusal := sloOp (.izx d8) 8 s

/-- `SLO` IZY, `$13`, 2 bytes, 8 cycles (R245). -/
def execSloIzy (d8 : Byte) (s : State) : Host.Outcome State Fault Refusal := sloOp (.izy d8) 8 s

/-- `RLA` (R246): `ROL`, then `AND`. -/
def rlaOp (m : MemMode) (base : Nat) (s : State) : Host.Outcome State Fault Refusal :=
  shiftOp (.mem m) base rotateLeft andA s

/-- `RLA` ZP, `$27`, 2 bytes, 5 cycles (R246). -/
def execRlaZp (d8 : Byte) (s : State) : Host.Outcome State Fault Refusal := rlaOp (.zp d8) 5 s

/-- `RLA` ZPX, `$37`, 2 bytes, 6 cycles (R246). -/
def execRlaZpx (d8 : Byte) (s : State) : Host.Outcome State Fault Refusal := rlaOp (.zpx d8) 6 s

/-- `RLA` ABS, `$2F`, 3 bytes, 6 cycles (R246). -/
def execRlaAbs (a16 : Addr) (s : State) : Host.Outcome State Fault Refusal := rlaOp (.abs a16) 6 s

/-- `RLA` ABX, `$3F`, 3 bytes, 7 cycles (R246). -/
def execRlaAbx (a16 : Addr) (s : State) : Host.Outcome State Fault Refusal := rlaOp (.abx a16) 7 s

/-- `RLA` ABY, `$3B`, 3 bytes, 7 cycles (R246). -/
def execRlaAby (a16 : Addr) (s : State) : Host.Outcome State Fault Refusal := rlaOp (.aby a16) 7 s

/-- `RLA` IZX, `$23`, 2 bytes, 8 cycles (R246). -/
def execRlaIzx (d8 : Byte) (s : State) : Host.Outcome State Fault Refusal := rlaOp (.izx d8) 8 s

/-- `RLA` IZY, `$33`, 2 bytes, 8 cycles (R246). -/
def execRlaIzy (d8 : Byte) (s : State) : Host.Outcome State Fault Refusal := rlaOp (.izy d8) 8 s

/-- `SRE` (R247): `LSR`, then `EOR`. -/
def sreOp (m : MemMode) (base : Nat) (s : State) : Host.Outcome State Fault Refusal :=
  shiftOp (.mem m) base shiftRight eorA s

/-- `SRE` ZP, `$47`, 2 bytes, 5 cycles (R247). -/
def execSreZp (d8 : Byte) (s : State) : Host.Outcome State Fault Refusal := sreOp (.zp d8) 5 s

/-- `SRE` ZPX, `$57`, 2 bytes, 6 cycles (R247). -/
def execSreZpx (d8 : Byte) (s : State) : Host.Outcome State Fault Refusal := sreOp (.zpx d8) 6 s

/-- `SRE` ABS, `$4F`, 3 bytes, 6 cycles (R247). -/
def execSreAbs (a16 : Addr) (s : State) : Host.Outcome State Fault Refusal := sreOp (.abs a16) 6 s

/-- `SRE` ABX, `$5F`, 3 bytes, 7 cycles (R247). -/
def execSreAbx (a16 : Addr) (s : State) : Host.Outcome State Fault Refusal := sreOp (.abx a16) 7 s

/-- `SRE` ABY, `$5B`, 3 bytes, 7 cycles (R247). -/
def execSreAby (a16 : Addr) (s : State) : Host.Outcome State Fault Refusal := sreOp (.aby a16) 7 s

/-- `SRE` IZX, `$43`, 2 bytes, 8 cycles (R247). -/
def execSreIzx (d8 : Byte) (s : State) : Host.Outcome State Fault Refusal := sreOp (.izx d8) 8 s

/-- `SRE` IZY, `$53`, 2 bytes, 8 cycles (R247). -/
def execSreIzy (d8 : Byte) (s : State) : Host.Outcome State Fault Refusal := sreOp (.izy d8) 8 s

/-- `RRA` (R248): `ROR`, then `ADC` with the carry just produced. -/
def rraOp (m : MemMode) (base : Nat) (s : State) : Host.Outcome State Fault Refusal :=
  shiftOp (.mem m) base rotateRight adcA s

/-- `RRA` ZP, `$67`, 2 bytes, 5 cycles (R248). -/
def execRraZp (d8 : Byte) (s : State) : Host.Outcome State Fault Refusal := rraOp (.zp d8) 5 s

/-- `RRA` ZPX, `$77`, 2 bytes, 6 cycles (R248). -/
def execRraZpx (d8 : Byte) (s : State) : Host.Outcome State Fault Refusal := rraOp (.zpx d8) 6 s

/-- `RRA` ABS, `$6F`, 3 bytes, 6 cycles (R248). -/
def execRraAbs (a16 : Addr) (s : State) : Host.Outcome State Fault Refusal := rraOp (.abs a16) 6 s

/-- `RRA` ABX, `$7F`, 3 bytes, 7 cycles (R248). -/
def execRraAbx (a16 : Addr) (s : State) : Host.Outcome State Fault Refusal := rraOp (.abx a16) 7 s

/-- `RRA` ABY, `$7B`, 3 bytes, 7 cycles (R248). -/
def execRraAby (a16 : Addr) (s : State) : Host.Outcome State Fault Refusal := rraOp (.aby a16) 7 s

/-- `RRA` IZX, `$63`, 2 bytes, 8 cycles (R248). -/
def execRraIzx (d8 : Byte) (s : State) : Host.Outcome State Fault Refusal := rraOp (.izx d8) 8 s

/-- `RRA` IZY, `$73`, 2 bytes, 8 cycles (R248). -/
def execRraIzy (d8 : Byte) (s : State) : Host.Outcome State Fault Refusal := rraOp (.izy d8) 8 s

end Sys2Proof.Machine
end

