-- ==== Sys2Proof/Machine/Fetch.lean ====
section
/-! DEFINITION. Fetching the next instruction through the bus (30_encoding.md R90, R91, 20_memory.md R66 items 1 and 2), and placing one where the
next step fetches it. -/

namespace Sys2Proof.Machine

/-- The bytes the step reads at `PC`: the opcode, then the operand bytes of its format; the opcode alone if it is in no table
(30_encoding.md R112). -/
def fetchBytes (s : State) : List Byte :=
  let op := busRead s.pc s
  op :: busReads (operandCount s.cfg.undoc op) (s.pc + 1) (afterRead s.pc s)

/-- The state after those reads. -/
def afterFetch (s : State) : State :=
  afterReads (operandCount s.cfg.undoc (busRead s.pc s)) (s.pc + 1) (afterRead s.pc s)

/-- The instruction at `PC`, none if the opcode is in no table. -/
def fetchInstr (s : State) : Option Instr :=
  match decode s.cfg.undoc (fetchBytes s) with
  | .ok (i, _) => some i
  | .error _ => none

/-- Bytes written into RAM itself, not through the bus, at rising addresses (70_reset_and_hazards.md R326). That they go on at `$0000` after
`$FFFF` is not in R326: DESIGN CHOICE, notes/assumptions/14.md. -/
def storeBytes : List Byte → Addr → Memory → Memory
  | [], _, m => m
  | b :: rest, a, m => storeBytes rest (a + 1) (ramWrite m a.toNat b)

/-- Would fetches at `a`, `a + 1` and `a + 2` all be answered by RAM? -/
def fetchesRam (a : Addr) (s : State) : Bool :=
  [a, a + 1, a + 2].all fun k => owner s.cfg s.latch .read k == .ram

/-- Where a program is put if the fetch at `PC` is not from RAM: the load address of the spec's programs (95_test_vectors.md
section 3, 70_reset_and_hazards.md R326). -/
def programBase : Addr := 0x0200

/-- The state whose next step fetches these bytes: they are in RAM at `PC`, or at `programBase` with `PC` set there (R326: "or the host
sets `PC` by a register edit after `reset()`") where RAM does not answer the fetches at `PC`; the fault record and the interrupts that
would keep the step from fetching are taken away. notes/assumptions/3.md. -/
def placeInstruction (bytes : List Byte) (s : State) : State :=
  let start := if fetchesRam s.pc s then s.pc else programBase
  { s with
    pc := start
    ram := storeBytes bytes start s.ram
    fault := none
    nmiPending := false
    irqSignals := if s.i then s.irqSignals else [] }

end Sys2Proof.Machine
end

