-- ==== Sys2Proof/WellFormed.lean ====
section
/-! DEFINITION. Which instructions and which configurations the core has: an optional instruction only under
`UNDOC_SET = common` (46_undocumented.md R240), and a configuration only if it keeps 20_memory.md R63 (a) to (e). -/

namespace Sys2Proof

/-- Is the instruction one of the eight optional composites (46_undocumented.md R240)? -/
def Instr.optional : Instr → Bool
  | .ldaIzx _ | .ldaZp _ | .ldaImm _ | .ldaAbs _ | .ldaIzy _ | .ldaZpx _ | .ldaAby _ | .ldaAbx _ | .ldxImm _
  | .ldxZp _ | .ldxAbs _ | .ldxZpy _ | .ldxAby _ | .ldyImm _ | .ldyZp _ | .ldyAbs _ | .ldyZpx _ | .ldyAbx _
  | .staIzx _ | .staZp _ | .staAbs _ | .staIzy _ | .staZpx _ | .staAby _ | .staAbx _ | .stxZp _ | .stxAbs _
  | .stxZpy _ | .styZp _ | .styAbs _ | .styZpx _ => false
  | .tax | .tay | .txa | .tya | .tsx | .txs | .pha | .php | .pla | .plp => false
  | .andIzx _ | .andZp _ | .andImm _ | .andAbs _ | .andIzy _ | .andZpx _ | .andAby _ | .andAbx _ | .oraIzx _
  | .oraZp _ | .oraImm _ | .oraAbs _ | .oraIzy _ | .oraZpx _ | .oraAby _ | .oraAbx _ | .eorIzx _ | .eorZp _
  | .eorImm _ | .eorAbs _ | .eorIzy _ | .eorZpx _ | .eorAby _ | .eorAbx _ | .bitZp _ | .bitAbs _ | .adcIzx _
  | .adcZp _ | .adcImm _ | .adcAbs _ | .adcIzy _ | .adcZpx _ | .adcAby _ | .adcAbx _ | .sbcIzx _ | .sbcZp _
  | .sbcImm _ | .sbcAbs _ | .sbcIzy _ | .sbcZpx _ | .sbcAby _ | .sbcAbx _ | .cmpIzx _ | .cmpZp _ | .cmpImm _
  | .cmpAbs _ | .cmpIzy _ | .cmpZpx _ | .cmpAby _ | .cmpAbx _ | .cpxImm _ | .cpxZp _ | .cpxAbs _ | .cpyImm _
  | .cpyZp _ | .cpyAbs _ => false
  | .incZp _ | .incAbs _ | .incZpx _ | .incAbx _ | .inx | .iny | .decZp _ | .decAbs _ | .decZpx _ | .decAbx _
  | .dex | .dey | .aslZp _ | .aslAcc | .aslAbs _ | .aslZpx _ | .aslAbx _ | .lsrZp _ | .lsrAcc | .lsrAbs _
  | .lsrZpx _ | .lsrAbx _ | .rolZp _ | .rolAcc | .rolAbs _ | .rolZpx _ | .rolAbx _ | .rorZp _ | .rorAcc | .rorAbs _
  | .rorZpx _ | .rorAbx _ => false
  | .jmpAbs _ | .jmpInd _ | .jsr _ | .rts | .bcc _ | .bcs _ | .beq _ | .bne _ | .bmi _ | .bpl _ | .bvc _ | .bvs _ => false
  | .clc | .sec | .cli | .sei | .cld | .sed | .clv | .nop | .brk | .rti => false
  | .laxZp _ | .laxZpy _ | .laxAbs _ | .laxAby _ | .laxIzx _ | .laxIzy _ | .saxZp _ | .saxZpy _ | .saxAbs _
  | .saxIzx _ | .dcpZp _ | .dcpZpx _ | .dcpAbs _ | .dcpAbx _ | .dcpAby _ | .dcpIzx _ | .dcpIzy _ | .iscZp _
  | .iscZpx _ | .iscAbs _ | .iscAbx _ | .iscAby _ | .iscIzx _ | .iscIzy _ | .sloZp _ | .sloZpx _ | .sloAbs _
  | .sloAbx _ | .sloAby _ | .sloIzx _ | .sloIzy _ | .rlaZp _ | .rlaZpx _ | .rlaAbs _ | .rlaAbx _ | .rlaAby _
  | .rlaIzx _ | .rlaIzy _ | .sreZp _ | .sreZpx _ | .sreAbs _ | .sreAbx _ | .sreAby _ | .sreIzx _ | .sreIzy _
  | .rraZp _ | .rraZpx _ | .rraAbs _ | .rraAbx _ | .rraAby _ | .rraIzx _ | .rraIzy _ => true

/-- Is the instruction in the table under this setting (30_encoding.md R112)? Every operand value is legal (R114). -/
def Instr.wellFormed (u : UndocSet) (i : Instr) : Bool := !i.optional || u == .common

/-- The length of a ROM image's window (10_state.md R35). -/
def Rom.size : Rom → Nat
  | .basic => 8192
  | .char => 4096
  | .kernal => 8192

/-- Do two inclusive ranges share an address? -/
def rangesMeet (lo1 hi1 lo2 hi2 : Addr) : Bool := max lo1.toNat lo2.toNat ≤ min hi1.toNat hi2.toNat

/-- R63 (a): no two peripheral ranges intersect. -/
def Config.peripheralsDisjoint (cfg : Config) : Bool :=
  decide (cfg.peripherals.Pairwise fun p q => rangesMeet p.lo p.hi q.lo q.hi = false)

/-- R63 (b): no peripheral range contains `LATCH_ADDR`. -/
def Config.latchFree (cfg : Config) : Bool :=
  cfg.peripherals.all fun p => !rangesMeet p.lo p.hi latchAddr latchAddr

/-- R63 (c): no peripheral range intersects `$A000–$BFFF` or `$E000–$FFFF`. -/
def Config.romWindowsFree (cfg : Config) : Bool :=
  cfg.peripherals.all fun p => !rangesMeet p.lo p.hi 0xA000 0xBFFF && !rangesMeet p.lo p.hi 0xE000 0xFFFF

/-- Can the region claim anything at `LATCH_ADDR`, for some latch value and some kind of access? -/
def CartRegion.claimsLatch (r : CartRegion) : Bool :=
  rangesMeet r.lo r.hi latchAddr latchAddr && (r.latchValue &&& r.latchMask) == r.latchValue && (r.onRead || r.onWrite)

/-- R63 (d): the cartridge never claims `LATCH_ADDR`. -/
def Config.cartLeavesLatch (cfg : Config) : Bool :=
  match cfg.cart with
  | none => true
  | some regions => regions.all fun r => !r.claimsLatch

/-- An image that is present has exactly the length of its window. -/
def romFits (r : Rom) : Option (List Byte) → Bool
  | none => true
  | some bytes => bytes.length == r.size

/-- R63 (e): each present ROM image has the length of its window. -/
def Config.romsFit (cfg : Config) : Bool :=
  romFits .basic cfg.romBasic && romFits .char cfg.romChar && romFits .kernal cfg.romKernal

/-- The configuration keeps 20_memory.md R63; one that does not is refused (notes/assumptions/10.md). -/
def Config.wellFormed (cfg : Config) : Bool :=
  cfg.peripheralsDisjoint && cfg.latchFree && cfg.romWindowsFree && cfg.cartLeavesLatch && cfg.romsFit

end Sys2Proof
end

