-- ==== Sys2Proof/Machine/Step.lean ====
section
/-! DEFINITION. One step: the poll and one transition at an instruction boundary (60_exceptions.md R266, 70_reset_and_hazards.md R320). -/

namespace Sys2Proof.Machine

/-- An instruction execution, or the fatal decode fault (30_encoding.md R90, R112). -/
def runInstruction (s : State) : Host.Outcome State Fault Refusal :=
  match fetchInstr s with
  | some i => exec i (afterFetch s)
  | none => .next (fatalDecode (busRead s.pc s) s.pc (afterFetch s))

/-- `Boundary` (60_exceptions.md R266): exactly one of `Enter(NMI)`, `Enter(IRQ)`, `Execute`. -/
def boundary (s : State) : Host.Outcome State Fault Refusal :=
  let t := sampleIrq s
  match pendingInterrupt t with
  | some kind => .next (enter kind t)
  | none => runInstruction t

/-- `step()` (70_reset_and_hazards.md R320): in the faulted state the fault and nothing else, otherwise one transition. A configuration
that breaks 20_memory.md R63 is refused. -/
def step (s : State) : Host.Outcome State Fault Refusal :=
  if s.cfg.wellFormed then
    match s.fault with
    | some (op, pc) => .fault (.fatalDecode op pc)
    | none => boundary s
  else .refused .illFormedConfig

/-- `s` with the instruction whose bits are `w` where `step` fetches its next instruction, the bits from `nbits` up being 0:
notes/assumptions/3.md says how a program comes to run. -/
def State.withFetchWord (s : State) (nbits w : Nat) : State := placeInstruction (tableWordBytes nbits w) s

end Sys2Proof.Machine
end

