-- ==== Sys2Proof/Machine/HostOps.lean ====
section
/-! DEFINITION. What acts on the core between its transitions: the environment (60_exceptions.md R262, R263, R286) and the host's operations
(70_reset_and_hazards.md R320–R326). `reset()` itself is `resetMachine` in Machine/Ops.lean. -/

namespace Sys2Proof.Machine

/-- What the environment may do between two transitions, other than a host operation (60_exceptions.md R286). -/
inductive EnvAction where
  /-- `nmi_request` (R262). -/
  | nmiRequest
  /-- The devices' interrupt-request signals take these values (R263). -/
  | irqSignals (signals : List Bool)
  /-- A device changes its own state. -/
  | deviceChange (change : Nat)
deriving DecidableEq, Repr

/-- One action of the environment. -/
def environment (e : EnvAction) (s : State) : State :=
  match e with
  | .nmiRequest => { s with nmiPending := true }
  | .irqSignals signals => { s with irqSignals := signals }
  | .deviceChange change => { s with devices := .own change :: s.devices }

/-- Several actions, in order. -/
def environments (es : List EnvAction) (s : State) : State := es.foldl (fun t e => environment e t) s

/-- The flags the host may set singly (70_reset_and_hazards.md R322). -/
inductive Flag where
  | n
  | v
  | d
  | i
  | z
  | c
deriving DecidableEq, Repr

/-- A register edit (70_reset_and_hazards.md R322): the value has the register's width. -/
inductive RegisterEdit where
  | a (value : Byte)
  | x (value : Byte)
  | y (value : Byte)
  | sp (value : Byte)
  | pc (value : Addr)
  | status (value : Byte)
  | flag (f : Flag) (value : Bool)
deriving DecidableEq, Repr

/-- Set one flag. -/
def setFlag (f : Flag) (value : Bool) (s : State) : State :=
  match f with
  | .n => { s with n := value }
  | .v => { s with v := value }
  | .d => { s with d := value }
  | .i => { s with i := value }
  | .z => { s with z := value }
  | .c => { s with c := value }

/-- `reg <name> <hex-val>` (70_reset_and_hazards.md R322): no bus access, no cycle; the status byte through `SetP`. -/
def editRegister (e : RegisterEdit) (s : State) : State :=
  match e with
  | .a value => { s with a := value }
  | .x value => { s with x := value }
  | .y value => { s with y := value }
  | .sp value => { s with sp := value }
  | .pc value => { s with pc := value }
  | .status value => setP value s
  | .flag f value => setFlag f value s

/-- A host write of any one item of the state (10_state.md R40: "every item of R20"). The register edits are R322's; RAM is here the byte itself,
not through the bus. R322 names no command for the items other than registers, flags and memory: notes/assumptions/15.md. -/
inductive StateEdit where
  | register (e : RegisterEdit)
  | cycles (value : Nat)
  | nmiPending (value : Bool)
  | irqPending (value : Bool)
  | latch (value : Byte)
  | ram (a : Addr) (value : Byte)
  | fault (value : Option (Byte × Addr))
deriving DecidableEq, Repr

/-- One host write: that item, no bus access, no transition of the core (10_state.md R40). -/
def editState (e : StateEdit) (s : State) : State :=
  match e with
  | .register e => editRegister e s
  | .cycles value => { s with cycles := value }
  | .nmiPending value => { s with nmiPending := value }
  | .irqPending value => { s with irqPending := value }
  | .latch value => { s with latch := value }
  | .ram a value => { s with ram := ramWrite s.ram a.toNat value }
  | .fault value => { s with fault := value }

/-- `set <hex-addr> <hex-val>` (70_reset_and_hazards.md R323, 20_memory.md R74): through the bus, no cycle. -/
def editMemory (a : Addr) (b : Byte) (s : State) : State := busWrite a b s

/-- `m <hex-addr> [len]` (70_reset_and_hazards.md R323): the bytes of reads at rising addresses through the bus.
A range that runs past `$FFFF` goes on at `$0000`: DESIGN CHOICE, notes/assumptions/14.md. -/
def dumpMemory (a : Addr) (len : Nat) (s : State) : List Byte := busReads len a s

/-- The state a dump leaves: a device it reads has seen the reads. -/
def afterDump (a : Addr) (len : Nat) (s : State) : State := afterReads len a s

/-- The host's view of the status register (10_state.md R27). -/
def hostStatus (s : State) : Byte := pByte false s

/-- Bytes loaded into RAM itself (70_reset_and_hazards.md R326). Bytes past `$FFFF` go on at `$0000`: DESIGN CHOICE,
notes/assumptions/14.md. -/
def loadProgram (a : Addr) (bytes : List Byte) (s : State) : State := { s with ram := storeBytes bytes a s.ram }

/-- What a snapshot records (70_reset_and_hazards.md R324); `devices` stands for the devices' opaque blobs. -/
structure Snapshot where
  a : Byte
  x : Byte
  y : Byte
  sp : Byte
  pc : Addr
  n : Bool
  v : Bool
  d : Bool
  i : Bool
  z : Bool
  c : Bool
  cycles : Nat
  ram : Memory
  latch : Byte
  devices : List DeviceEvent
deriving DecidableEq, Repr

/-- `save` (70_reset_and_hazards.md R324); in the faulted state it is outside the spec. -/
def saveSnapshot (s : State) : Option Snapshot :=
  match s.fault with
  | some _ => none
  | none => some
      { a := s.a, x := s.x, y := s.y, sp := s.sp, pc := s.pc, n := s.n, v := s.v, d := s.d, i := s.i, z := s.z, c := s.c
        cycles := s.cycles, ram := s.ram, latch := s.latch, devices := s.devices }

/-- `load` (70_reset_and_hazards.md R324), all of it or nothing. The record does not hold `nmi_pending`, which the spec leaves
unspecified afterwards: it is the argument `nmi` (notes/assumptions/9.md). In the faulted state `load` is outside the spec. -/
def loadSnapshot (k : Snapshot) (nmi : Bool) (s : State) : Option State :=
  match s.fault with
  | some _ => none
  | none => some
      { s with
        a := k.a, x := k.x, y := k.y, sp := k.sp, pc := k.pc, n := k.n, v := k.v, d := k.d, i := k.i, z := k.z, c := k.c
        cycles := k.cycles, ram := k.ram, latch := k.latch, devices := k.devices, nmiPending := nmi }

/-- What `step()` reports to the host (70_reset_and_hazards.md R320). -/
inductive StepReport where
  /-- The cycles consumed. -/
  | consumed (n : Nat)
  /-- `Error(fault)`. -/
  | error (opcode : Byte) (pc : Addr)
  /-- The configuration is refused (20_memory.md R63). -/
  | refused (why : Refusal)
deriving DecidableEq, Repr

/-- `step()` with its report (70_reset_and_hazards.md R320). -/
def hostStep (s : State) : StepReport × State :=
  match step s with
  | .fault (.fatalDecode op pc) => (.error op pc, s)
  | .refused why => (.refused why, s)
  | .next t =>
    match t.fault with
    | some (op, pc) => (.error op pc, t)
    | none => (.consumed (t.cycles - s.cycles), t)

/-- Why `run_until` returned (70_reset_and_hazards.md R321, R325). -/
inductive RunReport where
  | stopped
  | breakpoint (pc : Addr)
  | error (opcode : Byte) (pc : Addr)
  | refused (why : Refusal)
  /-- The slice is used up (R325). -/
  | sliceEnd
deriving DecidableEq, Repr

/-- What the environment does around one transition of a run: before it and after it (70_reset_and_hazards.md R321). -/
structure EnvTurn where
  before : List EnvAction
  after : List EnvAction
deriving DecidableEq, Repr

/-- One transition of a run, with what the environment does before and after it (70_reset_and_hazards.md R321). -/
def takeTurn (e : EnvTurn) (s : State) : Host.Outcome State Fault Refusal :=
  match step (environments e.before s) with
  | .next t => .next (environments e.after t)
  | .fault r => .fault r
  | .refused r => .refused r

/-- `run_until(pred, breakpoints)` (70_reset_and_hazards.md R321) over a slice (R325) of as many transitions as `schedule` has entries.
`first` is R321's flag: the breakpoint check is skipped once. The predicate and the breakpoints are looked at after what the environment did
after the transition before, and before what it does before the next one. -/
def runUntil (pred : State → Bool) (breakpoints : List Addr) : List EnvTurn → Bool → State → RunReport × State
  | schedule, first, s =>
    match s.fault with
    | some (op, pc) => (.error op pc, s)
    | none =>
      if pred s then (.stopped, s)
      else if breakpoints.contains s.pc && !first then (.breakpoint s.pc, s)
      else match schedule with
        | [] => (.sliceEnd, s)
        | e :: rest =>
          match takeTurn e s with
          | .next t => runUntil pred breakpoints rest false t
          | .fault (.fatalDecode op pc) => (.error op pc, environments e.before s)
          | .refused why => (.refused why, environments e.before s)

end Sys2Proof.Machine
end

