-- ==== Sys2Proof/Safety.lean ====
section
/-! DEFINITION. What claims about runs are stated in: the end of a run (70_reset_and_hazards.md R316), and the invariant that every step
keeps. -/

namespace Sys2Proof.Safety

open Sys2Proof.Machine

/-- The run ends successfully here: `PC = END` and `fault` absent (70_reset_and_hazards.md R316). -/
def atEnd (endAddr : Addr) (s : State) : Bool := s.fault.isNone && s.pc == endAddr

/-- The run has failed here: a fatal decode fault, or an address the test names as a failure trap (70_reset_and_hazards.md R316). -/
def hasFailed (traps : List Addr) (s : State) : Bool := s.fault.isSome || traps.contains s.pc

/-- The state at which a run of at most as many transitions as `schedule` has entries first ends successfully: none if it fails first, by a
fault or at a trap, or does neither (70_reset_and_hazards.md R316). `schedule` is what the environment does around each transition. If the
test names `END` itself as a trap, the run has failed there: DESIGN CHOICE, notes/assumptions/16.md. -/
def endState (endAddr : Addr) (traps : List Addr) : List EnvTurn → State → Option State
  | schedule, s =>
    if hasFailed traps s then none
    else if atEnd endAddr s then some s
    else match schedule with
      | [] => none
      | e :: rest =>
        match takeTurn e s with
        | .next t => endState endAddr traps rest t
        | .fault _ => none
        | .refused _ => none

/-- The 64 mnemonics of spec/opcode_table.json: what rules that name instructions by mnemonic speak of (10_state.md R21–R24, R29). -/
inductive Mnemonic where
  | lda | ldx | ldy | sta | stx | sty | tax | tay | txa | tya | tsx | txs | pha | php | pla | plp | and | ora | eor
  | bit | adc | sbc | cmp | cpx | cpy | inc | inx | iny | dec | dex | dey | asl | lsr | rol | ror | jmp | jsr | rts
  | bcc | bcs | beq | bne | bmi | bpl | bvc | bvs | clc | sec | cli | sei | cld | sed | clv | nop | brk | rti | lax
  | sax | dcp | isc | slo | rla | sre | rra
deriving DecidableEq, Repr

/-- The mnemonic of an instruction (30_encoding.md R108). -/
def mnemonic : Instr → Mnemonic
  | .ldaIzx _ | .ldaZp _ | .ldaImm _ | .ldaAbs _ | .ldaIzy _ | .ldaZpx _ | .ldaAby _ | .ldaAbx _ => .lda
  | .ldxImm _ | .ldxZp _ | .ldxAbs _ | .ldxZpy _ | .ldxAby _ => .ldx
  | .ldyImm _ | .ldyZp _ | .ldyAbs _ | .ldyZpx _ | .ldyAbx _ => .ldy
  | .staIzx _ | .staZp _ | .staAbs _ | .staIzy _ | .staZpx _ | .staAby _ | .staAbx _ => .sta
  | .stxZp _ | .stxAbs _ | .stxZpy _ => .stx
  | .styZp _ | .styAbs _ | .styZpx _ => .sty
  | .tax => .tax
  | .tay => .tay
  | .txa => .txa
  | .tya => .tya
  | .tsx => .tsx
  | .txs => .txs
  | .pha => .pha
  | .php => .php
  | .pla => .pla
  | .plp => .plp
  | .andIzx _ | .andZp _ | .andImm _ | .andAbs _ | .andIzy _ | .andZpx _ | .andAby _ | .andAbx _ => .and
  | .oraIzx _ | .oraZp _ | .oraImm _ | .oraAbs _ | .oraIzy _ | .oraZpx _ | .oraAby _ | .oraAbx _ => .ora
  | .eorIzx _ | .eorZp _ | .eorImm _ | .eorAbs _ | .eorIzy _ | .eorZpx _ | .eorAby _ | .eorAbx _ => .eor
  | .bitZp _ | .bitAbs _ => .bit
  | .adcIzx _ | .adcZp _ | .adcImm _ | .adcAbs _ | .adcIzy _ | .adcZpx _ | .adcAby _ | .adcAbx _ => .adc
  | .sbcIzx _ | .sbcZp _ | .sbcImm _ | .sbcAbs _ | .sbcIzy _ | .sbcZpx _ | .sbcAby _ | .sbcAbx _ => .sbc
  | .cmpIzx _ | .cmpZp _ | .cmpImm _ | .cmpAbs _ | .cmpIzy _ | .cmpZpx _ | .cmpAby _ | .cmpAbx _ => .cmp
  | .cpxImm _ | .cpxZp _ | .cpxAbs _ => .cpx
  | .cpyImm _ | .cpyZp _ | .cpyAbs _ => .cpy
  | .incZp _ | .incAbs _ | .incZpx _ | .incAbx _ => .inc
  | .inx => .inx
  | .iny => .iny
  | .decZp _ | .decAbs _ | .decZpx _ | .decAbx _ => .dec
  | .dex => .dex
  | .dey => .dey
  | .aslZp _ | .aslAcc | .aslAbs _ | .aslZpx _ | .aslAbx _ => .asl
  | .lsrZp _ | .lsrAcc | .lsrAbs _ | .lsrZpx _ | .lsrAbx _ => .lsr
  | .rolZp _ | .rolAcc | .rolAbs _ | .rolZpx _ | .rolAbx _ => .rol
  | .rorZp _ | .rorAcc | .rorAbs _ | .rorZpx _ | .rorAbx _ => .ror
  | .jmpAbs _ | .jmpInd _ => .jmp
  | .jsr _ => .jsr
  | .rts => .rts
  | .bcc _ => .bcc
  | .bcs _ => .bcs
  | .beq _ => .beq
  | .bne _ => .bne
  | .bmi _ => .bmi
  | .bpl _ => .bpl
  | .bvc _ => .bvc
  | .bvs _ => .bvs
  | .clc => .clc
  | .sec => .sec
  | .cli => .cli
  | .sei => .sei
  | .cld => .cld
  | .sed => .sed
  | .clv => .clv
  | .nop => .nop
  | .brk => .brk
  | .rti => .rti
  | .laxZp _ | .laxZpy _ | .laxAbs _ | .laxAby _ | .laxIzx _ | .laxIzy _ => .lax
  | .saxZp _ | .saxZpy _ | .saxAbs _ | .saxIzx _ => .sax
  | .dcpZp _ | .dcpZpx _ | .dcpAbs _ | .dcpAbx _ | .dcpAby _ | .dcpIzx _ | .dcpIzy _ => .dcp
  | .iscZp _ | .iscZpx _ | .iscAbs _ | .iscAbx _ | .iscAby _ | .iscIzx _ | .iscIzy _ => .isc
  | .sloZp _ | .sloZpx _ | .sloAbs _ | .sloAbx _ | .sloAby _ | .sloIzx _ | .sloIzy _ => .slo
  | .rlaZp _ | .rlaZpx _ | .rlaAbs _ | .rlaAbx _ | .rlaAby _ | .rlaIzx _ | .rlaIzy _ => .rla
  | .sreZp _ | .sreZpx _ | .sreAbs _ | .sreAbx _ | .sreAby _ | .sreIzx _ | .sreIzy _ => .sre
  | .rraZp _ | .rraZpx _ | .rraAbs _ | .rraAbx _ | .rraAby _ | .rraIzx _ | .rraIzy _ => .rra

/-- The opcode is in the table under this configuration (30_encoding.md R112). -/
def inTable (cfg : Config) (op : Byte) : Bool :=
  match lookupOpcode cfg.undoc op with
  | .ok _ => true
  | .error _ => false

/-- The invariant of a step: RAM is in its canonical form, and a fault record, where there is one, holds an opcode that is in no table
(10_state.md R37, 60_exceptions.md R260). -/
abbrev Inv (s : State) : Prop :=
  Memory.wf s.ram ∧ ∀ f, s.fault = some f → inTable s.cfg f.1 = false

end Sys2Proof.Safety
end

