-- ==== Sys2Proof/Certificates/Slice0/Obligations.lean ====
section
/-! DEFINITION. The statements for the provers, each about every state or every operand, and what they are written in: the forms of each
instruction with its opcode, length and base cycles, transcribed once more from 30_encoding.md R108 and 46_undocumented.md
R241–R248, and what a store does to memory. A next state is written as the state before with the fields that change, so that every
field not named is unchanged: that is its frame. -/

namespace Sys2Proof.Claims

open Sys2Proof.Machine

/-- One encoding of an instruction: its opcode, its length in bytes, its operand, its base cycles. -/
structure Form (operand : Type) where
  instr : Instr
  opcode : Byte
  len : Nat
  operand : operand
  base : Nat
deriving DecidableEq, Repr

/-- The form's opcode and length are those of its encoding. -/
def Form.encoded {operand : Type} (f : Form operand) : Prop :=
  ∃ operands, encode f.instr = f.opcode :: operands ∧ operands.length + 1 = f.len

/-- The forms of `LDA` (R130). -/
def ldaForms (d8 : Byte) (a16 : Addr) : List (Form ReadOperand) :=
  [⟨.ldaIzx d8, 0xA1, 2, .mem (.izx d8), 6⟩, ⟨.ldaZp d8, 0xA5, 2, .mem (.zp d8), 3⟩,
   ⟨.ldaImm d8, 0xA9, 2, .imm d8, 2⟩, ⟨.ldaAbs a16, 0xAD, 3, .mem (.abs a16), 4⟩,
   ⟨.ldaIzy d8, 0xB1, 2, .mem (.izy d8), 5⟩, ⟨.ldaZpx d8, 0xB5, 2, .mem (.zpx d8), 4⟩,
   ⟨.ldaAby a16, 0xB9, 3, .mem (.aby a16), 4⟩, ⟨.ldaAbx a16, 0xBD, 3, .mem (.abx a16), 4⟩]

/-- The forms of `LDX` (R131). -/
def ldxForms (d8 : Byte) (a16 : Addr) : List (Form ReadOperand) :=
  [⟨.ldxImm d8, 0xA2, 2, .imm d8, 2⟩, ⟨.ldxZp d8, 0xA6, 2, .mem (.zp d8), 3⟩,
   ⟨.ldxAbs a16, 0xAE, 3, .mem (.abs a16), 4⟩, ⟨.ldxZpy d8, 0xB6, 2, .mem (.zpy d8), 4⟩,
   ⟨.ldxAby a16, 0xBE, 3, .mem (.aby a16), 4⟩]

/-- The forms of `LDY` (R132). -/
def ldyForms (d8 : Byte) (a16 : Addr) : List (Form ReadOperand) :=
  [⟨.ldyImm d8, 0xA0, 2, .imm d8, 2⟩, ⟨.ldyZp d8, 0xA4, 2, .mem (.zp d8), 3⟩,
   ⟨.ldyAbs a16, 0xAC, 3, .mem (.abs a16), 4⟩, ⟨.ldyZpx d8, 0xB4, 2, .mem (.zpx d8), 4⟩,
   ⟨.ldyAbx a16, 0xBC, 3, .mem (.abx a16), 4⟩]

/-- The forms of `LAX` (R241). -/
def laxForms (d8 : Byte) (a16 : Addr) : List (Form ReadOperand) :=
  [⟨.laxZp d8, 0xA7, 2, .mem (.zp d8), 3⟩, ⟨.laxZpy d8, 0xB7, 2, .mem (.zpy d8), 4⟩,
   ⟨.laxAbs a16, 0xAF, 3, .mem (.abs a16), 4⟩, ⟨.laxAby a16, 0xBF, 3, .mem (.aby a16), 4⟩,
   ⟨.laxIzx d8, 0xA3, 2, .mem (.izx d8), 6⟩, ⟨.laxIzy d8, 0xB3, 2, .mem (.izy d8), 5⟩]

/-- The forms of `STA` (R133). -/
def staForms (d8 : Byte) (a16 : Addr) : List (Form MemMode) :=
  [⟨.staIzx d8, 0x81, 2, .izx d8, 6⟩, ⟨.staZp d8, 0x85, 2, .zp d8, 3⟩,
   ⟨.staAbs a16, 0x8D, 3, .abs a16, 4⟩, ⟨.staIzy d8, 0x91, 2, .izy d8, 6⟩,
   ⟨.staZpx d8, 0x95, 2, .zpx d8, 4⟩, ⟨.staAby a16, 0x99, 3, .aby a16, 5⟩,
   ⟨.staAbx a16, 0x9D, 3, .abx a16, 5⟩]

/-- The forms of `STX` (R134). -/
def stxForms (d8 : Byte) (a16 : Addr) : List (Form MemMode) :=
  [⟨.stxZp d8, 0x86, 2, .zp d8, 3⟩, ⟨.stxAbs a16, 0x8E, 3, .abs a16, 4⟩,
   ⟨.stxZpy d8, 0x96, 2, .zpy d8, 4⟩]

/-- The forms of `STY` (R135). -/
def styForms (d8 : Byte) (a16 : Addr) : List (Form MemMode) :=
  [⟨.styZp d8, 0x84, 2, .zp d8, 3⟩, ⟨.styAbs a16, 0x8C, 3, .abs a16, 4⟩,
   ⟨.styZpx d8, 0x94, 2, .zpx d8, 4⟩]

/-- The forms of `SAX` (R242). -/
def saxForms (d8 : Byte) (a16 : Addr) : List (Form MemMode) :=
  [⟨.saxZp d8, 0x87, 2, .zp d8, 3⟩, ⟨.saxZpy d8, 0x97, 2, .zpy d8, 4⟩,
   ⟨.saxAbs a16, 0x8F, 3, .abs a16, 4⟩, ⟨.saxIzx d8, 0x83, 2, .izx d8, 6⟩]

/-- The forms of `AND` (R160). -/
def andForms (d8 : Byte) (a16 : Addr) : List (Form ReadOperand) :=
  [⟨.andIzx d8, 0x21, 2, .mem (.izx d8), 6⟩, ⟨.andZp d8, 0x25, 2, .mem (.zp d8), 3⟩,
   ⟨.andImm d8, 0x29, 2, .imm d8, 2⟩, ⟨.andAbs a16, 0x2D, 3, .mem (.abs a16), 4⟩,
   ⟨.andIzy d8, 0x31, 2, .mem (.izy d8), 5⟩, ⟨.andZpx d8, 0x35, 2, .mem (.zpx d8), 4⟩,
   ⟨.andAby a16, 0x39, 3, .mem (.aby a16), 4⟩, ⟨.andAbx a16, 0x3D, 3, .mem (.abx a16), 4⟩]

/-- The forms of `ORA` (R161). -/
def oraForms (d8 : Byte) (a16 : Addr) : List (Form ReadOperand) :=
  [⟨.oraIzx d8, 0x01, 2, .mem (.izx d8), 6⟩, ⟨.oraZp d8, 0x05, 2, .mem (.zp d8), 3⟩,
   ⟨.oraImm d8, 0x09, 2, .imm d8, 2⟩, ⟨.oraAbs a16, 0x0D, 3, .mem (.abs a16), 4⟩,
   ⟨.oraIzy d8, 0x11, 2, .mem (.izy d8), 5⟩, ⟨.oraZpx d8, 0x15, 2, .mem (.zpx d8), 4⟩,
   ⟨.oraAby a16, 0x19, 3, .mem (.aby a16), 4⟩, ⟨.oraAbx a16, 0x1D, 3, .mem (.abx a16), 4⟩]

/-- The forms of `EOR` (R162). -/
def eorForms (d8 : Byte) (a16 : Addr) : List (Form ReadOperand) :=
  [⟨.eorIzx d8, 0x41, 2, .mem (.izx d8), 6⟩, ⟨.eorZp d8, 0x45, 2, .mem (.zp d8), 3⟩,
   ⟨.eorImm d8, 0x49, 2, .imm d8, 2⟩, ⟨.eorAbs a16, 0x4D, 3, .mem (.abs a16), 4⟩,
   ⟨.eorIzy d8, 0x51, 2, .mem (.izy d8), 5⟩, ⟨.eorZpx d8, 0x55, 2, .mem (.zpx d8), 4⟩,
   ⟨.eorAby a16, 0x59, 3, .mem (.aby a16), 4⟩, ⟨.eorAbx a16, 0x5D, 3, .mem (.abx a16), 4⟩]

/-- The forms of `BIT` (R163). -/
def bitForms (d8 : Byte) (a16 : Addr) : List (Form ReadOperand) :=
  [⟨.bitZp d8, 0x24, 2, .mem (.zp d8), 3⟩, ⟨.bitAbs a16, 0x2C, 3, .mem (.abs a16), 4⟩]

/-- The forms of `ADC` (R165). -/
def adcForms (d8 : Byte) (a16 : Addr) : List (Form ReadOperand) :=
  [⟨.adcIzx d8, 0x61, 2, .mem (.izx d8), 6⟩, ⟨.adcZp d8, 0x65, 2, .mem (.zp d8), 3⟩,
   ⟨.adcImm d8, 0x69, 2, .imm d8, 2⟩, ⟨.adcAbs a16, 0x6D, 3, .mem (.abs a16), 4⟩,
   ⟨.adcIzy d8, 0x71, 2, .mem (.izy d8), 5⟩, ⟨.adcZpx d8, 0x75, 2, .mem (.zpx d8), 4⟩,
   ⟨.adcAby a16, 0x79, 3, .mem (.aby a16), 4⟩, ⟨.adcAbx a16, 0x7D, 3, .mem (.abx a16), 4⟩]

/-- The forms of `SBC` (R167). -/
def sbcForms (d8 : Byte) (a16 : Addr) : List (Form ReadOperand) :=
  [⟨.sbcIzx d8, 0xE1, 2, .mem (.izx d8), 6⟩, ⟨.sbcZp d8, 0xE5, 2, .mem (.zp d8), 3⟩,
   ⟨.sbcImm d8, 0xE9, 2, .imm d8, 2⟩, ⟨.sbcAbs a16, 0xED, 3, .mem (.abs a16), 4⟩,
   ⟨.sbcIzy d8, 0xF1, 2, .mem (.izy d8), 5⟩, ⟨.sbcZpx d8, 0xF5, 2, .mem (.zpx d8), 4⟩,
   ⟨.sbcAby a16, 0xF9, 3, .mem (.aby a16), 4⟩, ⟨.sbcAbx a16, 0xFD, 3, .mem (.abx a16), 4⟩]

/-- The forms of `CMP` (R170). -/
def cmpForms (d8 : Byte) (a16 : Addr) : List (Form ReadOperand) :=
  [⟨.cmpIzx d8, 0xC1, 2, .mem (.izx d8), 6⟩, ⟨.cmpZp d8, 0xC5, 2, .mem (.zp d8), 3⟩,
   ⟨.cmpImm d8, 0xC9, 2, .imm d8, 2⟩, ⟨.cmpAbs a16, 0xCD, 3, .mem (.abs a16), 4⟩,
   ⟨.cmpIzy d8, 0xD1, 2, .mem (.izy d8), 5⟩, ⟨.cmpZpx d8, 0xD5, 2, .mem (.zpx d8), 4⟩,
   ⟨.cmpAby a16, 0xD9, 3, .mem (.aby a16), 4⟩, ⟨.cmpAbx a16, 0xDD, 3, .mem (.abx a16), 4⟩]

/-- The forms of `CPX` (R171). -/
def cpxForms (d8 : Byte) (a16 : Addr) : List (Form ReadOperand) :=
  [⟨.cpxImm d8, 0xE0, 2, .imm d8, 2⟩, ⟨.cpxZp d8, 0xE4, 2, .mem (.zp d8), 3⟩,
   ⟨.cpxAbs a16, 0xEC, 3, .mem (.abs a16), 4⟩]

/-- The forms of `CPY` (R172). -/
def cpyForms (d8 : Byte) (a16 : Addr) : List (Form ReadOperand) :=
  [⟨.cpyImm d8, 0xC0, 2, .imm d8, 2⟩, ⟨.cpyZp d8, 0xC4, 2, .mem (.zp d8), 3⟩,
   ⟨.cpyAbs a16, 0xCC, 3, .mem (.abs a16), 4⟩]

/-- The forms of `INC` (R180). -/
def incForms (d8 : Byte) (a16 : Addr) : List (Form MemMode) :=
  [⟨.incZp d8, 0xE6, 2, .zp d8, 5⟩, ⟨.incAbs a16, 0xEE, 3, .abs a16, 6⟩,
   ⟨.incZpx d8, 0xF6, 2, .zpx d8, 6⟩, ⟨.incAbx a16, 0xFE, 3, .abx a16, 7⟩]

/-- The forms of `DEC` (R183). -/
def decForms (d8 : Byte) (a16 : Addr) : List (Form MemMode) :=
  [⟨.decZp d8, 0xC6, 2, .zp d8, 5⟩, ⟨.decAbs a16, 0xCE, 3, .abs a16, 6⟩,
   ⟨.decZpx d8, 0xD6, 2, .zpx d8, 6⟩, ⟨.decAbx a16, 0xDE, 3, .abx a16, 7⟩]

/-- The memory forms of `ASL` (R186). -/
def aslForms (d8 : Byte) (a16 : Addr) : List (Form MemMode) :=
  [⟨.aslZp d8, 0x06, 2, .zp d8, 5⟩, ⟨.aslAbs a16, 0x0E, 3, .abs a16, 6⟩,
   ⟨.aslZpx d8, 0x16, 2, .zpx d8, 6⟩, ⟨.aslAbx a16, 0x1E, 3, .abx a16, 7⟩]

/-- The memory forms of `LSR` (R187). -/
def lsrForms (d8 : Byte) (a16 : Addr) : List (Form MemMode) :=
  [⟨.lsrZp d8, 0x46, 2, .zp d8, 5⟩, ⟨.lsrAbs a16, 0x4E, 3, .abs a16, 6⟩,
   ⟨.lsrZpx d8, 0x56, 2, .zpx d8, 6⟩, ⟨.lsrAbx a16, 0x5E, 3, .abx a16, 7⟩]

/-- The memory forms of `ROL` (R188). -/
def rolForms (d8 : Byte) (a16 : Addr) : List (Form MemMode) :=
  [⟨.rolZp d8, 0x26, 2, .zp d8, 5⟩, ⟨.rolAbs a16, 0x2E, 3, .abs a16, 6⟩,
   ⟨.rolZpx d8, 0x36, 2, .zpx d8, 6⟩, ⟨.rolAbx a16, 0x3E, 3, .abx a16, 7⟩]

/-- The memory forms of `ROR` (R189). -/
def rorForms (d8 : Byte) (a16 : Addr) : List (Form MemMode) :=
  [⟨.rorZp d8, 0x66, 2, .zp d8, 5⟩, ⟨.rorAbs a16, 0x6E, 3, .abs a16, 6⟩,
   ⟨.rorZpx d8, 0x76, 2, .zpx d8, 6⟩, ⟨.rorAbx a16, 0x7E, 3, .abx a16, 7⟩]

/-- The forms of `DCP` (R243). -/
def dcpForms (d8 : Byte) (a16 : Addr) : List (Form MemMode) :=
  [⟨.dcpZp d8, 0xC7, 2, .zp d8, 5⟩, ⟨.dcpZpx d8, 0xD7, 2, .zpx d8, 6⟩,
   ⟨.dcpAbs a16, 0xCF, 3, .abs a16, 6⟩, ⟨.dcpAbx a16, 0xDF, 3, .abx a16, 7⟩,
   ⟨.dcpAby a16, 0xDB, 3, .aby a16, 7⟩, ⟨.dcpIzx d8, 0xC3, 2, .izx d8, 8⟩,
   ⟨.dcpIzy d8, 0xD3, 2, .izy d8, 8⟩]

/-- The forms of `ISC` (R244). -/
def iscForms (d8 : Byte) (a16 : Addr) : List (Form MemMode) :=
  [⟨.iscZp d8, 0xE7, 2, .zp d8, 5⟩, ⟨.iscZpx d8, 0xF7, 2, .zpx d8, 6⟩,
   ⟨.iscAbs a16, 0xEF, 3, .abs a16, 6⟩, ⟨.iscAbx a16, 0xFF, 3, .abx a16, 7⟩,
   ⟨.iscAby a16, 0xFB, 3, .aby a16, 7⟩, ⟨.iscIzx d8, 0xE3, 2, .izx d8, 8⟩,
   ⟨.iscIzy d8, 0xF3, 2, .izy d8, 8⟩]

/-- The forms of `SLO` (R245). -/
def sloForms (d8 : Byte) (a16 : Addr) : List (Form MemMode) :=
  [⟨.sloZp d8, 0x07, 2, .zp d8, 5⟩, ⟨.sloZpx d8, 0x17, 2, .zpx d8, 6⟩,
   ⟨.sloAbs a16, 0x0F, 3, .abs a16, 6⟩, ⟨.sloAbx a16, 0x1F, 3, .abx a16, 7⟩,
   ⟨.sloAby a16, 0x1B, 3, .aby a16, 7⟩, ⟨.sloIzx d8, 0x03, 2, .izx d8, 8⟩,
   ⟨.sloIzy d8, 0x13, 2, .izy d8, 8⟩]

/-- The forms of `RLA` (R246). -/
def rlaForms (d8 : Byte) (a16 : Addr) : List (Form MemMode) :=
  [⟨.rlaZp d8, 0x27, 2, .zp d8, 5⟩, ⟨.rlaZpx d8, 0x37, 2, .zpx d8, 6⟩,
   ⟨.rlaAbs a16, 0x2F, 3, .abs a16, 6⟩, ⟨.rlaAbx a16, 0x3F, 3, .abx a16, 7⟩,
   ⟨.rlaAby a16, 0x3B, 3, .aby a16, 7⟩, ⟨.rlaIzx d8, 0x23, 2, .izx d8, 8⟩,
   ⟨.rlaIzy d8, 0x33, 2, .izy d8, 8⟩]

/-- The forms of `SRE` (R247). -/
def sreForms (d8 : Byte) (a16 : Addr) : List (Form MemMode) :=
  [⟨.sreZp d8, 0x47, 2, .zp d8, 5⟩, ⟨.sreZpx d8, 0x57, 2, .zpx d8, 6⟩,
   ⟨.sreAbs a16, 0x4F, 3, .abs a16, 6⟩, ⟨.sreAbx a16, 0x5F, 3, .abx a16, 7⟩,
   ⟨.sreAby a16, 0x5B, 3, .aby a16, 7⟩, ⟨.sreIzx d8, 0x43, 2, .izx d8, 8⟩,
   ⟨.sreIzy d8, 0x53, 2, .izy d8, 8⟩]

/-- The forms of `RRA` (R248). -/
def rraForms (d8 : Byte) (a16 : Addr) : List (Form MemMode) :=
  [⟨.rraZp d8, 0x67, 2, .zp d8, 5⟩, ⟨.rraZpx d8, 0x77, 2, .zpx d8, 6⟩,
   ⟨.rraAbs a16, 0x6F, 3, .abs a16, 6⟩, ⟨.rraAbx a16, 0x7F, 3, .abx a16, 7⟩,
   ⟨.rraAby a16, 0x7B, 3, .aby a16, 7⟩, ⟨.rraIzx d8, 0x63, 2, .izx d8, 8⟩,
   ⟨.rraIzy d8, 0x73, 2, .izy d8, 8⟩]

/-- What the write of `b` at `a` does, said field by field, from the state `s` in which it is made to the state `t`: RAM's byte changes
and no other, or the latch does, or a device receives the full address and the byte (20_memory.md R51, R55, R59, R61). -/
def storesByte (a : Addr) (b : Byte) (s t : State) : Prop :=
  match owner s.cfg s.latch .write a with
  | .ram => ramRead t.ram a.toNat = b ∧ (∀ k, k ≠ a.toNat → ramRead t.ram k = ramRead s.ram k) ∧
      t.latch = s.latch ∧ t.devices = s.devices
  | .latch => t.latch = b ∧ (∀ k, ramRead t.ram k = ramRead s.ram k) ∧ t.devices = s.devices
  | .device dev => t.devices = .write dev a b :: s.devices ∧ (∀ k, ramRead t.ram k = ramRead s.ram k) ∧ t.latch = s.latch
  | .rom _ => False

/-- Outside the addresses listed, every byte of RAM is unchanged. -/
def ramFrame (written : List Addr) (s t : State) : Prop :=
  ∀ k, (∀ a ∈ written, k ≠ a.toNat) → ramRead t.ram k = ramRead s.ram k

/-- An address that RAM answers on reads and on writes. -/
def ramBacked (s : State) (a : Addr) : Prop :=
  owner s.cfg s.latch .read a = .ram ∧ owner s.cfg s.latch .write a = .ram

/-- The three bytes an interrupt or `BRK` pushes, as bus writes: `ret` high and low, then the status byte (60_exceptions.md R270). -/
def framePushed (ret : Addr) (status : Byte) (s : State) : State :=
  busWrite (cat 0x01 (s.sp - 2)) status (busWrite (cat 0x01 (s.sp - 1)) (lo ret) (busWrite (cat 0x01 s.sp) (hi ret) s))

/-- The addresses of those bytes. -/
def frameAddrs (s : State) : List Addr := [cat 0x01 s.sp, cat 0x01 (s.sp - 1), cat 0x01 (s.sp - 2)]

/-- The pair of bytes at a vector, low byte read first (20_memory.md R64). -/
def vectorAt (vector : Addr) (s : State) : Addr := cat (busRead (vector + 1) (afterRead vector s)) (busRead vector s)

/-- The devices after a vector is read. -/
def devicesAfterVector (vector : Addr) (s : State) : List DeviceEvent :=
  (afterRead (vector + 1) (afterRead vector s)).devices

/-- The eight rows of 20_memory.md R56: `latch[2:0]` and what the windows `$A000`, `$D000`, `$E000` show. -/
def bankTable : List (Nat × Mapping × Mapping × Mapping) :=
  [(7, .rom .basic, .io, .rom .kernal), (6, .ram, .io, .rom .kernal), (5, .ram, .io, .ram), (4, .ram, .ram, .ram),
   (3, .rom .basic, .rom .char, .rom .kernal), (2, .ram, .rom .char, .rom .kernal), (1, .ram, .rom .char, .ram),
   (0, .ram, .ram, .ram)]

/-- RAM's byte, or the image's byte where an image is configured (20_memory.md R57). -/
def imageOr (image : Option (List Byte)) (base : Nat) (a : Addr) (s : State) : Byte :=
  match image with
  | some bytes => bytes.getD (a.toNat - base) 0
  | none => ramRead s.ram a.toNat

/-- A read of the byte of a registered peripheral, of RAM's where none is registered at the address, and the state it leaves
(20_memory.md R50). -/
def peripheralOrRamRead (a : Addr) (s : State) : Byte × State :=
  match s.cfg.peripherals.findIdx? (fun p => p.lo.toNat ≤ a.toNat && a.toNat ≤ p.hi.toNat) with
  | some k => (Config.deviceByte s.devices (.peripheral k) a, { s with devices := .read (.peripheral k) a :: s.devices })
  | none => (ramRead s.ram a.toNat, s)

/-- A write to a registered peripheral, to RAM where none is registered at the address (20_memory.md R51). -/
def peripheralOrRamWrite (a : Addr) (b : Byte) (s : State) : State :=
  match s.cfg.peripherals.findIdx? (fun p => p.lo.toNat ≤ a.toNat && a.toNat ≤ p.hi.toNat) with
  | some k => { s with devices := .write (.peripheral k) a b :: s.devices }
  | none => { s with ram := ramWrite s.ram a.toNat b }

/-- The opcodes that fault under every setting (30_encoding.md R113, first list). -/
def fatalOpcodes : List Byte :=
  [0x02, 0x04, 0x0B, 0x0C, 0x12, 0x14, 0x1A, 0x1C, 0x22, 0x2B, 0x32, 0x34, 0x3A, 0x3C, 0x42, 0x44, 0x4B, 0x52,
   0x54, 0x5A, 0x5C, 0x62, 0x64, 0x6B, 0x72, 0x74, 0x7A, 0x7C, 0x80, 0x82, 0x89, 0x8B, 0x92, 0x93, 0x9B, 0x9C,
   0x9E, 0x9F, 0xAB, 0xB2, 0xBB, 0xC2, 0xCB, 0xD2, 0xD4, 0xDA, 0xDC, 0xE2, 0xEB, 0xF2, 0xF4, 0xFA, 0xFC]

/-- The opcodes that fault only under `UNDOC_SET = none` (30_encoding.md R113, second list). -/
def optionalOpcodes : List Byte :=
  [0x03, 0x07, 0x0F, 0x13, 0x17, 0x1B, 0x1F, 0x23, 0x27, 0x2F, 0x33, 0x37, 0x3B, 0x3F, 0x43, 0x47, 0x4F, 0x53,
   0x57, 0x5B, 0x5F, 0x63, 0x67, 0x6F, 0x73, 0x77, 0x7B, 0x7F, 0x83, 0x87, 0x8F, 0x97, 0xA3, 0xA7, 0xAF, 0xB3,
   0xB7, 0xBF, 0xC3, 0xC7, 0xCF, 0xD3, 0xD7, 0xDB, 0xDF, 0xE3, 0xE7, 0xEF, 0xF3, 0xF7, 0xFB, 0xFF]

/-- The opcode is a fatal one under this setting (30_encoding.md R112, R113). -/
def undefinedUnder (u : UndocSet) (op : Byte) : Prop :=
  op ∈ fatalOpcodes ∨ (u = .none ∧ op ∈ optionalOpcodes)

/-- Every form of every instruction that reads its operand and does not write it back. -/
def readingForms (d8 : Byte) (a16 : Addr) : List (Form ReadOperand) :=
  ldaForms d8 a16 ++ ldxForms d8 a16 ++ ldyForms d8 a16 ++ laxForms d8 a16 ++ andForms d8 a16 ++ oraForms d8 a16 ++ eorForms d8 a16 ++
  bitForms d8 a16 ++ adcForms d8 a16 ++ sbcForms d8 a16 ++ cmpForms d8 a16 ++ cpxForms d8 a16 ++ cpyForms d8 a16

/-- Every form of every store, with the byte it stores. -/
def storingForms (d8 : Byte) (a16 : Addr) (s : State) : List (Form MemMode × Byte) :=
  (staForms d8 a16).map (·, s.a) ++ (stxForms d8 a16).map (·, s.x) ++ (styForms d8 a16).map (·, s.y) ++
  (saxForms d8 a16).map (·, s.a &&& s.x)

/-- Every form in memory of every read-modify-write instruction and composite. -/
def modifyingForms (d8 : Byte) (a16 : Addr) : List (Form MemMode) :=
  incForms d8 a16 ++ decForms d8 a16 ++ aslForms d8 a16 ++ lsrForms d8 a16 ++ rolForms d8 a16 ++ rorForms d8 a16 ++
  dcpForms d8 a16 ++ iscForms d8 a16 ++ sloForms d8 a16 ++ rlaForms d8 a16 ++ sreForms d8 a16 ++ rraForms d8 a16

/-- The mnemonics that write `N` (10_state.md R29, column N); all but `BIT` and the pulls write `Z` from the same value. -/
def nzWriters : List Safety.Mnemonic :=
  [.lda, .ldx, .ldy, .tax, .tay, .txa, .tya, .tsx, .pla, .and, .ora, .eor, .inc, .inx, .iny, .dec, .dex, .dey,
   .asl, .lsr, .rol, .ror, .adc, .sbc, .cmp, .cpx, .cpy, .bit, .plp, .rti, .lax, .slo, .rla, .sre, .rra, .isc, .dcp]

/-- The mnemonics that write `C` (10_state.md R29, column C). -/
def cWriters : List Safety.Mnemonic :=
  [.asl, .lsr, .rol, .ror, .adc, .sbc, .cmp, .cpx, .cpy, .clc, .sec, .plp, .rti, .slo, .rla, .sre, .rra, .isc, .dcp]

/-- The mnemonics that write `V` (10_state.md R29, column V). -/
def vWriters : List Safety.Mnemonic := [.adc, .sbc, .bit, .clv, .plp, .rti, .rra, .isc]

/-- The mnemonics that write `D` (10_state.md R29, column D; 42_logic_arith.md R164). -/
def dWriters : List Safety.Mnemonic := [.cld, .sed, .plp, .rti]

/-- The mnemonics that write `I` (10_state.md R29, column I). -/
def iWriters : List Safety.Mnemonic := [.cli, .sei, .plp, .rti, .brk]

/-- The mnemonics that write `A` (10_state.md R21). -/
def aWriters : List Safety.Mnemonic :=
  [.lda, .pla, .txa, .tya, .and, .ora, .eor, .adc, .sbc, .asl, .lsr, .rol, .ror, .lax, .slo, .rla, .sre, .rra, .isc]

/-- The mnemonics that write `X` (10_state.md R22). -/
def xWriters : List Safety.Mnemonic := [.ldx, .tax, .tsx, .inx, .dex, .lax]

/-- The mnemonics that write `Y` (10_state.md R23). -/
def yWriters : List Safety.Mnemonic := [.ldy, .tay, .iny, .dey]

/-- The mnemonics that write `SP` (10_state.md R24). -/
def spWriters : List Safety.Mnemonic := [.txs, .pha, .php, .pla, .plp, .jsr, .rts, .rti, .brk]

/-- The mnemonics whose rules write a byte to memory (40_ to 46_). -/
def memoryWriters : List Safety.Mnemonic :=
  [.sta, .stx, .sty, .sax, .pha, .php, .jsr, .brk, .inc, .dec, .asl, .lsr, .rol, .ror, .dcp, .isc, .slo, .rla, .sre, .rra]

/-- A composite and the two documented instructions it is the sequence of, in one mode (46_undocumented.md R240). -/
def compositePairs (d8 : Byte) (a16 : Addr) : List (Instr × Instr × Instr × MemMode) :=
  [(.sloZp d8, .aslZp d8, .oraZp d8, .zp d8), (.sloZpx d8, .aslZpx d8, .oraZpx d8, .zpx d8),
   (.sloAbs a16, .aslAbs a16, .oraAbs a16, .abs a16), (.sloAbx a16, .aslAbx a16, .oraAbx a16, .abx a16),
   (.rlaZp d8, .rolZp d8, .andZp d8, .zp d8), (.rlaZpx d8, .rolZpx d8, .andZpx d8, .zpx d8),
   (.rlaAbs a16, .rolAbs a16, .andAbs a16, .abs a16), (.rlaAbx a16, .rolAbx a16, .andAbx a16, .abx a16),
   (.sreZp d8, .lsrZp d8, .eorZp d8, .zp d8), (.sreZpx d8, .lsrZpx d8, .eorZpx d8, .zpx d8),
   (.sreAbs a16, .lsrAbs a16, .eorAbs a16, .abs a16), (.sreAbx a16, .lsrAbx a16, .eorAbx a16, .abx a16),
   (.rraZp d8, .rorZp d8, .adcZp d8, .zp d8), (.rraZpx d8, .rorZpx d8, .adcZpx d8, .zpx d8),
   (.rraAbs a16, .rorAbs a16, .adcAbs a16, .abs a16), (.rraAbx a16, .rorAbx a16, .adcAbx a16, .abx a16),
   (.dcpZp d8, .decZp d8, .cmpZp d8, .zp d8), (.dcpZpx d8, .decZpx d8, .cmpZpx d8, .zpx d8),
   (.dcpAbs a16, .decAbs a16, .cmpAbs a16, .abs a16), (.dcpAbx a16, .decAbx a16, .cmpAbx a16, .abx a16),
   (.iscZp d8, .incZp d8, .sbcZp d8, .zp d8), (.iscZpx d8, .incZpx d8, .sbcZpx d8, .zpx d8),
   (.iscAbs a16, .incAbs a16, .sbcAbs a16, .abs a16), (.iscAbx a16, .incAbx a16, .sbcAbx a16, .abx a16)]

/-- A reading instruction's next state, but for what it does with the byte: `PC` past it, the base cycles and the page cycle, and
what a device that was read has seen. -/
def afterReading (f : Form ReadOperand) (s : State) : State :=
  { s with
    pc := s.pc + BitVec.ofNat 16 f.len
    cycles := s.cycles + f.base + pageCycle f.operand s
    devices := (afterLoad f.operand s).devices }

/-- A storing instruction's next state `t`, registers first: nothing but `PC`, `cycles` and what the store of `b` at the effective address
changes. -/
def storesAt (f : Form MemMode) (b : Byte) (s t : State) : Prop :=
  t = { s with pc := s.pc + BitVec.ofNat 16 f.len, cycles := s.cycles + f.base, latch := t.latch, ram := t.ram, devices := t.devices } ∧
  storesByte (effAddr f.operand s) b (afterPointer f.operand s) t

/-- A memory read-modify-write instruction's next state `t`: the new byte `r` is stored at the address it was read from, and beyond
`PC` and `cycles` only the fields of `after` differ. -/
def modifiesAt (f : Form MemMode) (r : Byte) (after : State) (s t : State) : Prop :=
  t = { after with pc := s.pc + BitVec.ofNat 16 f.len, cycles := s.cycles + f.base, latch := t.latch, ram := t.ram, devices := t.devices } ∧
  storesByte (effAddr f.operand s) r (afterMemRead f.operand s) t

end Sys2Proof.Claims

open Sys2Proof Sys2Proof.Machine Sys2Proof.Claims

/-! ### Encoding -/

/-- Decoding the encoding of an instruction that is in the table gives it back, with every operand value and whatever bytes follow
(30_encoding.md R91, R107, R108, R112; 46_undocumented.md R241–R248). -/
def Obligations.DecodeOfEncodeIsTheInstruction : Prop :=
  ∀ (u : UndocSet) (i : Instr) (rest : List Byte), i.wellFormed u = true → decode u (encode i ++ rest) = .ok (i, rest)

/-- What the decoder accepts is an instruction in the table, and its encoding is the bytes that were read: no two byte strings decode to one
instruction (30_encoding.md R91, R107, R112). -/
def Obligations.EncodeOfDecodeIsTheBytes : Prop :=
  ∀ (u : UndocSet) (bytes : List Byte) (i : Instr) (rest : List Byte),
    decode u bytes = .ok (i, rest) → encode i ++ rest = bytes ∧ i.wellFormed u = true

/-- Words written out bit by bit from the spec's encodings decode to the instructions they stand for (30_encoding.md R107, R108). -/
def Obligations.SpecWordsDecode : Prop :=
  decode .none [0b10101001, 0x44] = .ok (.ldaImm 0x44, []) ∧ decode .none [0b10010001, 0x40] = .ok (.staIzy 0x40, []) ∧
  decode .none [0b10111010] = .ok (.tsx, []) ∧ decode .none [0b01101101, 0x34, 0x12] = .ok (.adcAbs 0x1234, []) ∧
  decode .none [0b01111110, 0xFF, 0x10] = .ok (.rorAbx 0x10FF, []) ∧ decode .none [0b01101100, 0xFF, 0x30] = .ok (.jmpInd 0x30FF, []) ∧
  decode .none [0b11010000, 0xFE] = .ok (.bne 0xFE, []) ∧ decode .none [0b00000000, 0xEA] = .ok (.brk, [0xEA]) ∧
  decode .common [0b11011011, 0xFF, 0x10] = .ok (.dcpAby 0x10FF, [])

/-- The opcodes R113 lists are refused by name whatever follows them, and every other opcode is in the table (30_encoding.md R112,
R113). -/
def Obligations.OpcodesOutsideTheTableAreRefused : Prop :=
  ∀ (op : Byte) (rest : List Byte),
    (op ∈ fatalOpcodes → ∀ u, decode u (op :: rest) = .error (.undefinedOpcode op)) ∧
    (op ∈ optionalOpcodes → decode .none (op :: rest) = .error (.optionalOpcode op) ∧
      ∃ i more, decode .common (op :: 0x00 :: 0x00 :: rest) = .ok (i, more)) ∧
    (op ∉ fatalOpcodes → op ∉ optionalOpcodes → ∀ u, ∃ i more, decode u (op :: 0x00 :: 0x00 :: rest) = .ok (i, more))

/-! ### One step -/

/-- When the bytes fetched at `PC` decode to an instruction and no interrupt is taken, the step is `exec` of it. What the step adds around
`exec` is the sample of the IRQ level (60_exceptions.md R266) and what the fetches did to a device (20_memory.md R66, R67). -/
def Obligations.StepRunsTheDecodedInstruction : Prop :=
  ∀ (s : State) (i : Instr) (rest : List Byte),
    s.cfg.wellFormed = true → s.fault = none → pendingInterrupt (sampleIrq s) = none →
    decode s.cfg.undoc (fetchBytes (sampleIrq s)) = .ok (i, rest) →
    step s = exec i (afterFetch (sampleIrq s))

/-- An instruction whose bytes lie in RAM at `PC` and the addresses after it, modulo 65536, is what the step runs, on the state before but for
the sample of the IRQ level (10_state.md R25, 30_encoding.md R90, R91; 20_memory.md R72). -/
def Obligations.StepRunsTheBytesInRam : Prop :=
  ∀ (s : State) (i : Instr),
    s.cfg.wellFormed = true → s.fault = none → s.nmiPending = false → (s.i = true ∨ s.irqSignals.any id = false) →
    i.wellFormed s.cfg.undoc = true →
    (∀ k, k < (encode i).length →
      owner s.cfg s.latch .read (s.pc + BitVec.ofNat 16 k) = .ram ∧
      ramRead s.ram (s.pc + BitVec.ofNat 16 k).toNat = (encode i).getD k 0) →
    step s = exec i { s with irqPending := s.irqSignals.any id }

/-- While `fault` is present the core has no transition: a step answers the fault (10_state.md R37, 70_reset_and_hazards.md R320), and a
configuration that breaks 20_memory.md R63 is refused. That step, and not a separate check, refuses the configuration is the model's
choice, notes/assumptions/10.md. -/
def Obligations.FaultedStateStandsStill : Prop :=
  (∀ (s : State) (op : Byte) (pc : Addr), s.cfg.wellFormed = true → s.fault = some (op, pc) → step s = .fault (.fatalDecode op pc)) ∧
  (∀ s : State, s.cfg.wellFormed = false → step s = .refused .illFormedConfig)

/-- An opcode outside the table at `PC` raises the fatal decode fault: the record holds it and its address, the opcode fetch is the only
bus access, the latch, RAM and the NMI latch are as they were, and `irq_pending` is the sample of the poll (30_encoding.md R112,
60_exceptions.md R260, R266). That the fault is a next state, after which the step stops, is the model's choice, and so is that cycles
does not go down; what the registers hold afterwards is a free value, and nothing is said of it (notes/assumptions/7.md). -/
def Obligations.UndefinedOpcodeRaisesTheFault : Prop :=
  ∀ s : State, s.cfg.wellFormed = true → s.fault = none → s.nmiPending = false → (s.i = true ∨ s.irqSignals.any id = false) →
    undefinedUnder s.cfg.undoc (busRead s.pc s) →
    ∃ t, step s = .next t ∧ t.fault = some (busRead s.pc s, s.pc) ∧ t.latch = s.latch ∧ t.ram = s.ram ∧
      t.devices = (afterRead s.pc s).devices ∧ t.nmiPending = false ∧ t.irqPending = s.irqSignals.any id ∧ t.cfg = s.cfg ∧
      s.cycles ≤ t.cycles

/-- The poll and the entry: with NMI pending, or with the IRQ level asserted and `I = 0`, the step pushes `PC` high, `PC` low and
`P_byte(0)`, sets `I`, clears the pending flag, loads `PC` from the vector and adds 7 cycles, and changes nothing else (60_exceptions.md
R266, R270, R271, R272, R273). The IRQ level is the OR of the signals held in State (notes/assumptions/4.md: State holds them). -/
def Obligations.InterruptEntry : Prop :=
  ∀ s : State, s.cfg.wellFormed = true → s.fault = none →
    (s.nmiPending = true →
      step s = .next
        { framePushed s.pc (pByte false s) s with
          sp := s.sp - 3, i := true, nmiPending := false, irqPending := s.irqSignals.any id, cycles := s.cycles + 7
          pc := vectorAt 0xFFFA (framePushed s.pc (pByte false s) s)
          devices := devicesAfterVector 0xFFFA (framePushed s.pc (pByte false s) s) }) ∧
    (s.nmiPending = false → s.irqSignals.any id = true → s.i = false →
      step s = .next
        { framePushed s.pc (pByte false s) s with
          sp := s.sp - 3, i := true, irqPending := false, cycles := s.cycles + 7
          pc := vectorAt 0xFFFE (framePushed s.pc (pByte false s) s)
          devices := devicesAfterVector 0xFFFE (framePushed s.pc (pByte false s) s) })

/-- Where the stack page is RAM, the three bytes an entry pushes lie at `$0100 + SP` and below, modulo 256, and every other byte of RAM
is unchanged (60_exceptions.md R270, 10_state.md R24). -/
def Obligations.EntryFrameInRam : Prop :=
  ∀ (s : State) (kind : InterruptKind), (∀ a ∈ frameAddrs s, ramBacked s a) →
    ramRead (enter kind s).ram (0x100 + s.sp.toNat) = hi s.pc ∧
    ramRead (enter kind s).ram (0x100 + (s.sp.toNat + 255) % 256) = lo s.pc ∧
    ramRead (enter kind s).ram (0x100 + (s.sp.toNat + 254) % 256) = pByte false s ∧
    ramFrame (frameAddrs s) s (enter kind s) ∧ (enter kind s).sp.toNat = (s.sp.toNat + 253) % 256

/-- NMI goes before IRQ, IRQ is masked by `I`, and with neither the boundary executes an instruction (60_exceptions.md R266, R267). The
IRQ level is the OR of the signals held in State (notes/assumptions/4.md: State holds them). -/
def Obligations.PollPriority : Prop :=
  ∀ s : State, s.cfg.wellFormed = true → s.fault = none →
    (s.nmiPending = true → step s = .next (enter .nmi (sampleIrq s))) ∧
    (s.nmiPending = false → s.irqSignals.any id = true → s.i = false → step s = .next (enter .irq (sampleIrq s))) ∧
    (s.nmiPending = false → (s.irqSignals.any id = false ∨ s.i = true) → step s = runInstruction (sampleIrq s))

/-- From every state that meets the invariant a step leads to one that meets it: RAM stays in its canonical form, and a fault record
always names an opcode that is in no table (10_state.md R34, R37; 60_exceptions.md R260). The canonical form is the model's own
representation of RAM. -/
def Obligations.StepKeepsTheInvariant : Prop :=
  ∀ s t : State, Safety.Inv s → step s = .next t → Safety.Inv t

/-- The state after reset meets the invariant. -/
def Obligations.ResetMeetsTheInvariant : Prop := Safety.Inv State.reset

/-- Every instruction adds 2 to 8 cycles, a documented one at most 7, and no step lowers the counter (10_state.md R30;
70_reset_and_hazards.md R302, R315). For a fatal decode fault the clause rests on notes/assumptions/7.md. -/
def Obligations.CyclesGrow : Prop :=
  (∀ (i : Instr) (s t : State), exec i s = .next t →
    s.cycles + 2 ≤ t.cycles ∧ t.cycles ≤ s.cycles + 8 ∧ (i.optional = false → t.cycles ≤ s.cycles + 7)) ∧
  (∀ s t : State, step s = .next t → s.cycles ≤ t.cycles)

/-- No instruction touches the interrupt latches, the fault record, the devices' signals, the configuration or the counter of free values
(10_state.md R31, R32, R38; 60_exceptions.md R282). -/
def Obligations.InstructionsLeaveTheInterruptLatches : Prop :=
  ∀ (i : Instr) (s t : State), exec i s = .next t →
    t.nmiPending = s.nmiPending ∧ t.irqPending = s.irqPending ∧ t.fault = s.fault ∧ t.irqSignals = s.irqSignals ∧
    t.cfg = s.cfg ∧ t.freeCount = s.freeCount

/-- A flag changes only where R29's table lists the instruction for it (10_state.md R29, 42_logic_arith.md R164). -/
def Obligations.FlagsChangeOnlyWhereListed : Prop :=
  ∀ (i : Instr) (s t : State), exec i s = .next t →
    (Safety.mnemonic i ∉ nzWriters → t.n = s.n ∧ t.z = s.z) ∧ (Safety.mnemonic i ∉ cWriters → t.c = s.c) ∧
    (Safety.mnemonic i ∉ vWriters → t.v = s.v) ∧ (Safety.mnemonic i ∉ dWriters → t.d = s.d) ∧
    (Safety.mnemonic i ∉ iWriters → t.i = s.i)

/-- A register changes only where its rule lists the instruction, and memory only where the instruction's rule stores
(10_state.md R21–R24; 20_memory.md R66). -/
def Obligations.RegistersAndMemoryChangeOnlyWhereListed : Prop :=
  ∀ (i : Instr) (s t : State), exec i s = .next t →
    (Safety.mnemonic i ∉ aWriters → t.a = s.a) ∧ (Safety.mnemonic i ∉ xWriters → t.x = s.x) ∧
    (Safety.mnemonic i ∉ yWriters → t.y = s.y) ∧ (Safety.mnemonic i ∉ spWriters → t.sp = s.sp) ∧
    (Safety.mnemonic i ∉ memoryWriters → t.ram = s.ram ∧ t.latch = s.latch)

/-- No step, whatever the configuration, changes the byte of RAM under the latch address (20_memory.md R55: a write there "does not write
`RAM[$0001]`"). -/
def Obligations.RamUnderTheLatchIsNeverWritten : Prop :=
  ∀ s t : State, step s = .next t → ramRead t.ram 1 = ramRead s.ram 1

/-- No step changes the configuration, the ROM images among it, or the devices' signals (10_state.md R35, R38; 60_exceptions.md R286). -/
def Obligations.StepKeepsConfigurationAndSignals : Prop :=
  ∀ s t : State, step s = .next t → t.cfg = s.cfg ∧ t.irqSignals = s.irqSignals

/-- What a device has seen is never taken back: a step only adds accesses to it (20_memory.md R67). Devices are held as the history of
accesses, notes/assumptions/5.md. -/
def Obligations.DeviceHistoryOnlyGrows : Prop :=
  ∀ s t : State, step s = .next t → ∃ events, t.devices = events ++ s.devices

/-- An instruction's result does not depend on the interrupt latches, the devices' signals or the cycle counter: run on two states that differ
only there, it gives states that differ only there (30_encoding.md R90, 10_state.md R30, R31, R32). -/
def Obligations.InstructionsDoNotSeeInterruptsOrTime : Prop :=
  ∀ (i : Instr) (s t : State) (nmi irq : Bool) (signals : List Bool) (more : Nat), exec i s = .next t →
    exec i { s with nmiPending := nmi, irqPending := irq, irqSignals := signals, cycles := s.cycles + more } =
      .next { t with nmiPending := nmi, irqPending := irq, irqSignals := signals, cycles := t.cycles + more }

/-! ### The bus -/

/-- The latch is reached at `$0001` and nowhere else: a write stores all eight bits there and no RAM byte, a read shows them through
`LATCH_RMASK` (20_memory.md R55). -/
def Obligations.LatchAtItsAddress : Prop :=
  ∀ (s : State) (b : Byte),
    (cartClaims s.cfg s.latch .write 0x0001 = false → busWrite 0x0001 b s = { s with latch := b }) ∧
    (cartClaims s.cfg s.latch .read 0x0001 = false →
      busRead 0x0001 s = s.latch &&& s.cfg.latchRMask ∧ afterRead 0x0001 s = s) ∧
    (∀ a : Addr, a ≠ 0x0001 → (busWrite a b s).latch = s.latch ∧ owner s.cfg s.latch .read a ≠ .latch)

/-- The three windows and the eight values of `latch[2:0]` (20_memory.md R53, R56). -/
def Obligations.BankMapTable : Prop :=
  ∀ (latch : Byte) (a : Addr),
    (∀ row ∈ bankTable, latch.toNat % 8 = row.1 →
      (0xA000 ≤ a.toNat → a.toNat ≤ 0xBFFF → windowMap latch a = some row.2.1) ∧
      (0xD000 ≤ a.toNat → a.toNat ≤ 0xDFFF → windowMap latch a = some row.2.2.1) ∧
      (0xE000 ≤ a.toNat → windowMap latch a = some row.2.2.2)) ∧
    (a.toNat < 0xA000 ∨ (0xC000 ≤ a.toNat ∧ a.toNat ≤ 0xCFFF) → windowMap latch a = none)

/-- A bus read, first match wins: cartridge, latch, window, peripheral, RAM. It gives a byte and changes nothing but the device that
answers, if one does (20_memory.md R50, R57). The byte of a device is a free value (notes/assumptions/5.md). -/
def Obligations.ReadResolution : Prop :=
  ∀ (s : State) (a : Addr),
    (busRead a s, afterRead a s) =
      if cartClaims s.cfg s.latch .read a then
        (Config.deviceByte s.devices .cart a, { s with devices := .read .cart a :: s.devices })
      else if a = 0x0001 then (s.latch &&& s.cfg.latchRMask, s)
      else if 0xA000 ≤ a.toNat ∧ a.toNat ≤ 0xBFFF then
        (if s.latch.getLsbD 0 ∧ s.latch.getLsbD 1 then imageOr s.cfg.romBasic 0xA000 a s else ramRead s.ram a.toNat, s)
      else if 0xE000 ≤ a.toNat ∧ a.toNat ≤ 0xFFFF then
        (if s.latch.getLsbD 1 then imageOr s.cfg.romKernal 0xE000 a s else ramRead s.ram a.toNat, s)
      else if 0xD000 ≤ a.toNat ∧ a.toNat ≤ 0xDFFF then
        if ¬ s.latch.getLsbD 0 ∧ ¬ s.latch.getLsbD 1 then (ramRead s.ram a.toNat, s)
        else if s.latch.getLsbD 2 then peripheralOrRamRead a s
        else (imageOr s.cfg.romChar 0xD000 a s, s)
      else peripheralOrRamRead a s

/-- A bus write, first match wins; where ROM shows it lands in the RAM beneath (20_memory.md R51, R56, R61). -/
def Obligations.WriteResolution : Prop :=
  ∀ (s : State) (a : Addr) (b : Byte),
    busWrite a b s =
      if cartClaims s.cfg s.latch .write a then { s with devices := .write .cart a b :: s.devices }
      else if a = 0x0001 then { s with latch := b }
      else if (0xA000 ≤ a.toNat ∧ a.toNat ≤ 0xBFFF) ∨ 0xE000 ≤ a.toNat then { s with ram := ramWrite s.ram a.toNat b }
      else if 0xD000 ≤ a.toNat ∧ a.toNat ≤ 0xDFFF then
        if (s.latch.getLsbD 0 ∨ s.latch.getLsbD 1) ∧ s.latch.getLsbD 2 then peripheralOrRamWrite a b s
        else { s with ram := ramWrite s.ram a.toNat b }
      else peripheralOrRamWrite a b s

/-- A read of an address RAM owns gives the byte last written there, and the write leaves what every other address reads as, whoever owns
it (20_memory.md R69). -/
def Obligations.WriteThenRead : Prop :=
  ∀ (s : State) (a : Addr) (b : Byte), ramBacked s a →
    busRead a (busWrite a b s) = b ∧ ∀ k, k ≠ a → busRead k (busWrite a b s) = busRead k s

/-- Changing the latch never moves or copies RAM, and restoring it restores the whole state: the bank-switching round trip
(20_memory.md R59, R73). -/
def Obligations.BankSwitchRoundTrip : Prop :=
  ∀ (s : State) (b : Byte), (∀ latch, cartClaims s.cfg latch .write 0x0001 = false) →
    (busWrite 0x0001 b s).ram = s.ram ∧ busWrite 0x0001 s.latch (busWrite 0x0001 b s) = s

/-! ### Operands -/

/-- The effective addresses as numbers: zero-page sums wrap at 256, absolute sums at 65536, pointers lie low byte first with both bytes in the
zero page (30_encoding.md R95–R100, R102, R103). -/
def Obligations.EffectiveAddresses : Prop :=
  ∀ (s : State) (d8 : Byte) (a16 : Addr),
    (effAddr (.zp d8) s).toNat = d8.toNat ∧
    (effAddr (.zpx d8) s).toNat = (d8.toNat + s.x.toNat) % 256 ∧
    (effAddr (.zpy d8) s).toNat = (d8.toNat + s.y.toNat) % 256 ∧
    (effAddr (.abs a16) s) = a16 ∧
    (effAddr (.abx a16) s).toNat = (a16.toNat + s.x.toNat) % 65536 ∧
    (effAddr (.aby a16) s).toNat = (a16.toNat + s.y.toNat) % 65536 ∧
    (∀ low high : Addr, low.toNat = (d8.toNat + s.x.toNat) % 256 → high.toNat = (d8.toNat + s.x.toNat + 1) % 256 →
      (effAddr (.izx d8) s).toNat = (busRead high (afterRead low s)).toNat * 256 + (busRead low s).toNat) ∧
    (∀ low high : Addr, low.toNat = d8.toNat → high.toNat = (d8.toNat + 1) % 256 →
      (effAddr (.izy d8) s).toNat =
        ((busRead high (afterRead low s)).toNat * 256 + (busRead low s).toNat + s.y.toNat) % 65536)

/-- A page crossing: the index moves the address to another block of 256, and only `ABX`, `ABY`, `IZY` report one; the reading
instruction pays one cycle for it (30_encoding.md R99, R100, R103, R111). -/
def Obligations.PageCrossings : Prop :=
  ∀ (s : State) (d8 : Byte) (a16 : Addr),
    pageCycle (.mem (.abx a16)) s = (if (effAddr (.abx a16) s).toNat / 256 = a16.toNat / 256 then 0 else 1) ∧
    pageCycle (.mem (.aby a16)) s = (if (effAddr (.aby a16) s).toNat / 256 = a16.toNat / 256 then 0 else 1) ∧
    (∀ base : Addr, effAddr (.izy d8) s = base + BitVec.ofNat 16 s.y.toNat →
      pageCycle (.mem (.izy d8)) s = (if (effAddr (.izy d8) s).toNat / 256 = base.toNat / 256 then 0 else 1)) ∧
    (∀ m ∈ [MemMode.zp d8, .zpx d8, .zpy d8, .abs a16, .izx d8], pageCycle (.mem m) s = 0) ∧ pageCycle (.imm d8) s = 0

/-- `LoadOperand()`: the immediate is the operand byte itself; a memory operand that RAM answers, its pointer bytes too, is RAM's byte at the
effective address, and loading it changes nothing (30_encoding.md R94, R105; 20_memory.md R50). -/
def Obligations.LoadOperand : Prop :=
  ∀ (s : State) (d8 : Byte) (m : MemMode),
    readValue (.imm d8) s = d8 ∧ afterLoad (.imm d8) s = s ∧
    ((∀ z : Byte, owner s.cfg s.latch .read (zext16 z) = .ram ∨ owner s.cfg s.latch .read (zext16 z) = .latch) →
      owner s.cfg s.latch .read (effAddr m s) = .ram →
      readValue (.mem m) s = ramRead s.ram (effAddr m s).toNat ∧ afterLoad (.mem m) s = s)

/-- Device accesses are made exactly once and in order, in every form of every load, store, logic, arithmetic, compare, read-modify-write
instruction and composite: after the mode's pointer reads, a reading instruction makes one read of the device, a store one write and no
read, a read-modify-write one read and then one write, and RAM and the latch are unchanged (20_memory.md R66, R67). The byte a
read-modify-write writes is said in the statements about those instructions. Devices are held as the history of accesses,
notes/assumptions/5.md. -/
def Obligations.DeviceAccessesOnceAndInOrder : Prop :=
  ∀ (s : State) (d8 : Byte) (a16 : Addr) (dev : Device),
    (∀ f ∈ readingForms d8 a16, ∀ m, f.operand = .mem m → owner s.cfg s.latch .read (effAddr m s) = .device dev →
      ∃ t, exec f.instr s = .next t ∧ t.devices = .read dev (effAddr m s) :: (afterPointer m s).devices ∧
        t.ram = s.ram ∧ t.latch = s.latch) ∧
    (∀ f ∈ storingForms d8 a16 s, owner s.cfg s.latch .write (effAddr f.1.operand s) = .device dev →
      ∃ t, exec f.1.instr s = .next t ∧
        t.devices = .write dev (effAddr f.1.operand s) f.2 :: (afterPointer f.1.operand s).devices ∧
        t.ram = s.ram ∧ t.latch = s.latch) ∧
    (∀ f ∈ modifyingForms d8 a16, owner s.cfg s.latch .read (effAddr f.operand s) = .device dev →
      owner s.cfg s.latch .write (effAddr f.operand s) = .device dev →
      ∃ t b, exec f.instr s = .next t ∧
        t.devices = .write dev (effAddr f.operand s) b :: .read dev (effAddr f.operand s) :: (afterPointer f.operand s).devices ∧
        t.ram = s.ram ∧ t.latch = s.latch)

/-! ### Loads, stores, transfers, the stack -/

/-- `LDA`, `LDX`, `LDY`, `LAX` in every form: the register is the operand, `N` and `Z` are the operand's, nothing else changes but `PC`,
`cycles` and a device that was read (40_load_store.md R130–R132, 46_undocumented.md R241). -/
def Obligations.Loads : Prop :=
  ∀ (s : State) (d8 : Byte) (a16 : Addr),
    (∀ f ∈ ldaForms d8 a16, f.encoded ∧ exec f.instr s = .next
      { afterReading f s with
        a := readValue f.operand s, n := (readValue f.operand s).getLsbD 7, z := readValue f.operand s == 0 }) ∧
    (∀ f ∈ ldxForms d8 a16, f.encoded ∧ exec f.instr s = .next
      { afterReading f s with
        x := readValue f.operand s, n := (readValue f.operand s).getLsbD 7, z := readValue f.operand s == 0 }) ∧
    (∀ f ∈ ldyForms d8 a16, f.encoded ∧ exec f.instr s = .next
      { afterReading f s with
        y := readValue f.operand s, n := (readValue f.operand s).getLsbD 7, z := readValue f.operand s == 0 }) ∧
    (∀ f ∈ laxForms d8 a16, f.encoded ∧ exec f.instr s = .next
      { afterReading f s with
        a := readValue f.operand s, x := readValue f.operand s
        n := (readValue f.operand s).getLsbD 7, z := readValue f.operand s == 0 })

/-- `STA`, `STX`, `STY`, `SAX` in every form: one write of the register at the effective address, which is not read; no flag, no register, no
other byte changes, and there is no page-crossing cycle (40_load_store.md R133–R135, 46_undocumented.md R242). -/
def Obligations.Stores : Prop :=
  ∀ (s : State) (d8 : Byte) (a16 : Addr),
    (∀ f ∈ staForms d8 a16, f.encoded ∧ ∃ t, exec f.instr s = .next t ∧ storesAt f s.a s t) ∧
    (∀ f ∈ stxForms d8 a16, f.encoded ∧ ∃ t, exec f.instr s = .next t ∧ storesAt f s.x s t) ∧
    (∀ f ∈ styForms d8 a16, f.encoded ∧ ∃ t, exec f.instr s = .next t ∧ storesAt f s.y s t) ∧
    (∀ f ∈ saxForms d8 a16, f.encoded ∧ ∃ t, exec f.instr s = .next t ∧ storesAt f (s.a &&& s.x) s t)

/-- The six transfers; `TXS` alone leaves `N` and `Z` (41_transfer_stack.md R140–R145). -/
def Obligations.Transfers : Prop :=
  encode .tax = [0xAA] ∧ encode .tay = [0xA8] ∧ encode .txa = [0x8A] ∧ encode .tya = [0x98] ∧ encode .tsx = [0xBA] ∧
  encode .txs = [0x9A] ∧ ∀ s : State,
    exec .tax s = .next { s with x := s.a, n := s.a.getLsbD 7, z := s.a == 0, pc := s.pc + 1, cycles := s.cycles + 2 } ∧
    exec .tay s = .next { s with y := s.a, n := s.a.getLsbD 7, z := s.a == 0, pc := s.pc + 1, cycles := s.cycles + 2 } ∧
    exec .txa s = .next { s with a := s.x, n := s.x.getLsbD 7, z := s.x == 0, pc := s.pc + 1, cycles := s.cycles + 2 } ∧
    exec .tya s = .next { s with a := s.y, n := s.y.getLsbD 7, z := s.y == 0, pc := s.pc + 1, cycles := s.cycles + 2 } ∧
    exec .tsx s = .next { s with x := s.sp, n := s.sp.getLsbD 7, z := s.sp == 0, pc := s.pc + 1, cycles := s.cycles + 2 } ∧
    exec .txs s = .next { s with sp := s.x, pc := s.pc + 1, cycles := s.cycles + 2 }

/-- `PHA`, `PHP`, `PLA`, `PLP`: a push writes at `$0100 + SP` and then lowers `SP`, a pull raises `SP` and then reads there, both modulo
256; `PHP` pushes bits 5 and 4 set, `PLP` ignores them (41_transfer_stack.md R146–R149; 10_state.md R24). -/
def Obligations.StackInstructions : Prop :=
  encode .pha = [0x48] ∧ encode .php = [0x08] ∧ encode .pla = [0x68] ∧ encode .plp = [0x28] ∧ ∀ s : State,
    (∃ t, exec .pha s = .next t ∧ storesByte (cat 0x01 s.sp) s.a s t ∧
      t = { s with
        sp := s.sp - 1, pc := s.pc + 1, cycles := s.cycles + 3, latch := t.latch, ram := t.ram, devices := t.devices }) ∧
    (∃ t, exec .php s = .next t ∧ storesByte (cat 0x01 s.sp) (pByte true s) s t ∧
      t = { s with
        sp := s.sp - 1, pc := s.pc + 1, cycles := s.cycles + 3, latch := t.latch, ram := t.ram, devices := t.devices }) ∧
    (∀ b, b = busRead (cat 0x01 (s.sp + 1)) s →
      exec .pla s = .next
        { s with
          a := b, n := b.getLsbD 7, z := b == 0, sp := s.sp + 1, pc := s.pc + 1, cycles := s.cycles + 4
          devices := (afterRead (cat 0x01 (s.sp + 1)) s).devices } ∧
      exec .plp s = .next
        { s with
          n := b.getLsbD 7, v := b.getLsbD 6, d := b.getLsbD 3, i := b.getLsbD 2, z := b.getLsbD 1, c := b.getLsbD 0
          sp := s.sp + 1, pc := s.pc + 1, cycles := s.cycles + 4
          devices := (afterRead (cat 0x01 (s.sp + 1)) s).devices })

/-- The status byte: each flag at its bit, bit 5 always 1, bit 4 as asked; loading it gives the flags back, and loading any byte
takes the flags from bits 7 6 3 2 1 0 and ignores bits 5 and 4 (10_state.md R26, R27, R28). -/
def Obligations.StatusByte : Prop :=
  ∀ (s t : State) (b : Bool),
    (pByte b s).getLsbD 7 = s.n ∧ (pByte b s).getLsbD 6 = s.v ∧ (pByte b s).getLsbD 5 = true ∧ (pByte b s).getLsbD 4 = b ∧
    (pByte b s).getLsbD 3 = s.d ∧ (pByte b s).getLsbD 2 = s.i ∧ (pByte b s).getLsbD 1 = s.z ∧ (pByte b s).getLsbD 0 = s.c ∧
    setP (pByte b s) t = { t with n := s.n, v := s.v, d := s.d, i := s.i, z := s.z, c := s.c } ∧
    ∀ p : Byte,
      setP p t =
        { t with
          n := p.getLsbD 7, v := p.getLsbD 6, d := p.getLsbD 3, i := p.getLsbD 2, z := p.getLsbD 1, c := p.getLsbD 0 }

/-! ### Logic and arithmetic -/

/-- `AND`, `ORA`, `EOR` in every form, and `BIT`, whose `N` and `V` come from the memory operand (42_logic_arith.md R160–R163). -/
def Obligations.LogicInstructions : Prop :=
  ∀ (s : State) (d8 : Byte) (a16 : Addr),
    (∀ f ∈ andForms d8 a16, f.encoded ∧ ∀ r, r = s.a &&& readValue f.operand s →
      exec f.instr s = .next { afterReading f s with a := r, n := r.getLsbD 7, z := r == 0 }) ∧
    (∀ f ∈ oraForms d8 a16, f.encoded ∧ ∀ r, r = s.a ||| readValue f.operand s →
      exec f.instr s = .next { afterReading f s with a := r, n := r.getLsbD 7, z := r == 0 }) ∧
    (∀ f ∈ eorForms d8 a16, f.encoded ∧ ∀ r, r = s.a ^^^ readValue f.operand s →
      exec f.instr s = .next { afterReading f s with a := r, n := r.getLsbD 7, z := r == 0 }) ∧
    (∀ f ∈ bitForms d8 a16, f.encoded ∧ ∀ m, m = readValue f.operand s →
      exec f.instr s = .next { afterReading f s with z := s.a &&& m == 0, n := m.getLsbD 7, v := m.getLsbD 6 })

/-- `ADC` and `SBC` in every form: the binary result with `D = 0`, the configured decimal result with `D = 1`, the same cycles in both
(42_logic_arith.md R164–R168). -/
def Obligations.AddAndSubtract : Prop :=
  ∀ (s : State) (d8 : Byte) (a16 : Addr),
    (∀ f ∈ adcForms d8 a16, f.encoded ∧ ∀ out,
      out = (if s.d then decimal s.cfg.decimal .adc s.a (readValue f.operand s) s.c else adcBinary s.a (readValue f.operand s) s.c) →
      exec f.instr s = .next { afterReading f s with a := out.acc, n := out.n, v := out.v, z := out.z, c := out.c }) ∧
    (∀ f ∈ sbcForms d8 a16, f.encoded ∧ ∀ out,
      out = (if s.d then decimal s.cfg.decimal .sbc s.a (readValue f.operand s) s.c else sbcBinary s.a (readValue f.operand s) s.c) →
      exec f.instr s = .next { afterReading f s with a := out.acc, n := out.n, v := out.v, z := out.z, c := out.c })

/-- Binary addition and subtraction as arithmetic: the sum modulo 256, `C` the unsigned outcome, `V` the signed outcome out of range, and
`SBC m` is `ADC (m ^ $FF)` (42_logic_arith.md R165, R167, R173). -/
def Obligations.BinaryArithmetic : Prop :=
  ∀ (a m : Byte) (c : Bool) (k : Nat), k = (if c then 1 else 0) →
    (adcBinary a m c).acc.toNat = (a.toNat + m.toNat + k) % 256 ∧
    ((adcBinary a m c).c = true ↔ 255 < a.toNat + m.toNat + k) ∧
    ((adcBinary a m c).v = true ↔ a.toInt + m.toInt + k < -128 ∨ 127 < a.toInt + m.toInt + k) ∧
    (adcBinary a m c).n = (adcBinary a m c).acc.getLsbD 7 ∧ ((adcBinary a m c).z = true ↔ (adcBinary a m c).acc = 0) ∧
    sbcBinary a m c = adcBinary a (m ^^^ 0xFF) c ∧
    (sbcBinary a m c).acc.toNat = (a.toNat + 256 + k - 1 - m.toNat) % 256 ∧
    ((sbcBinary a m c).c = true ↔ m.toNat + 1 ≤ a.toNat + k)

/-- Decimal addition and subtraction of valid BCD operands, under either setting of `DECIMAL_ALGO`: `A` is the two decimal digits of the sum or
difference modulo 100, `C` the hundreds carry or no borrow (42_logic_arith.md R166, R168, R169, the normative part). -/
def Obligations.DecimalArithmeticIsExact : Prop :=
  ∀ (algo : DecimalAlgo) (c : Bool) (k a1 a0 m1 m0 r1 r0 : Nat) (a m r : Byte),
    k = (if c then 1 else 0) → a1 < 10 → a0 < 10 → m1 < 10 → m0 < 10 → r1 < 10 → r0 < 10 →
    a.toNat = 16 * a1 + a0 → m.toNat = 16 * m1 + m0 → r.toNat = 16 * r1 + r0 →
    (10 * r1 + r0 = (10 * a1 + a0 + (10 * m1 + m0) + k) % 100 →
      (decimal algo .adc a m c).acc = r ∧ ((decimal algo .adc a m c).c = true ↔ 100 ≤ 10 * a1 + a0 + (10 * m1 + m0) + k)) ∧
    (10 * r1 + r0 = (10 * a1 + a0 + 100 + k - 1 - (10 * m1 + m0)) % 100 →
      (decimal algo .sbc a m c).acc = r ∧ ((decimal algo .sbc a m c).c = true ↔ 10 * m1 + m0 + 1 ≤ 10 * a1 + a0 + k))

/-- Decimal addition and subtraction on every operand under the setting `nmos`: `A` and all four flags by the sequences of R166 and R168, said
in numbers. In `ADC` `Z` is of the binary sum, `N` and `V` are taken before the high-digit correction; in `SBC` the flags are those of the
binary subtraction (42_logic_arith.md R166, R168). The sequences outside R169's normative part are the spec's decision D15, and that the
setting exists beside `cautious` is the model's choice, notes/assumptions/8.md. -/
def Obligations.NmosDecimalSequences : Prop :=
  ∀ (a m : Byte) (c : Bool) (k : Nat), k = (if c then 1 else 0) →
    (∀ (al0 al t0 t : Nat) (sum : Int), al0 = a.toNat % 16 + m.toNat % 16 + k → al = (if 10 ≤ al0 then (al0 + 6) % 16 + 16 else al0) →
      t0 = a.toNat / 16 * 16 + m.toNat / 16 * 16 + al → t = (if 160 ≤ t0 then t0 + 96 else t0) →
      sum = (a &&& 0xF0).toInt + (m &&& 0xF0).toInt + al →
      (decimal .nmos .adc a m c).acc.toNat = t % 256 ∧ ((decimal .nmos .adc a m c).c = true ↔ 256 ≤ t) ∧
      ((decimal .nmos .adc a m c).n = true ↔ 128 ≤ t0 % 256) ∧
      ((decimal .nmos .adc a m c).v = true ↔ sum < -128 ∨ 127 < sum) ∧
      ((decimal .nmos .adc a m c).z = true ↔ (a.toNat + m.toNat + k) % 256 = 0)) ∧
    (∀ al0 al r0 r : Int, al0 = (a.toNat % 16 : Nat) - (m.toNat % 16 : Nat) + k - 1 → al = (if al0 < 0 then (al0 - 6) % 16 - 16 else al0) →
      r0 = (a.toNat / 16 * 16 : Nat) - (m.toNat / 16 * 16 : Nat) + al → r = (if r0 < 0 then r0 - 96 else r0) →
      ((decimal .nmos .sbc a m c).acc.toNat : Int) = r % 256 ∧ (decimal .nmos .sbc a m c).c = (sbcBinary a m c).c ∧
      (decimal .nmos .sbc a m c).n = (sbcBinary a m c).n ∧ (decimal .nmos .sbc a m c).v = (sbcBinary a m c).v ∧
      (decimal .nmos .sbc a m c).z = (sbcBinary a m c).z)

/-- `CMP`, `CPX`, `CPY` in every form: the unsigned comparison, equality, and bit 7 of the difference; no register, no `V`, no effect of `D`
(42_logic_arith.md R170–R172). -/
def Obligations.Compares : Prop :=
  ∀ (s : State) (d8 : Byte) (a16 : Addr),
    (∀ f ∈ cmpForms d8 a16, f.encoded ∧ ∀ m, m = readValue f.operand s → exec f.instr s = .next
      { afterReading f s with n := (s.a - m).getLsbD 7, z := s.a == m, c := decide (m.toNat ≤ s.a.toNat) }) ∧
    (∀ f ∈ cpxForms d8 a16, f.encoded ∧ ∀ m, m = readValue f.operand s → exec f.instr s = .next
      { afterReading f s with n := (s.x - m).getLsbD 7, z := s.x == m, c := decide (m.toNat ≤ s.x.toNat) }) ∧
    (∀ f ∈ cpyForms d8 a16, f.encoded ∧ ∀ m, m = readValue f.operand s → exec f.instr s = .next
      { afterReading f s with n := (s.y - m).getLsbD 7, z := s.y == m, c := decide (m.toNat ≤ s.y.toNat) })

/-- `INC` and `DEC` in every form, `INX`, `INY`, `DEX`, `DEY`: modulo 256, `N` and `Z` from the result, `C` and `V` untouched; the memory forms
write the byte back where it was read and nowhere else (43_incdec_shift.md R180–R185). -/
def Obligations.IncrementsAndDecrements : Prop :=
  encode .inx = [0xE8] ∧ encode .iny = [0xC8] ∧ encode .dex = [0xCA] ∧ encode .dey = [0x88] ∧
  ∀ (s : State) (d8 : Byte) (a16 : Addr),
    (∀ f ∈ incForms d8 a16, f.encoded ∧ ∀ r, r = memValue f.operand s + 1 →
      ∃ t, exec f.instr s = .next t ∧ modifiesAt f r { s with n := r.getLsbD 7, z := r == 0 } s t) ∧
    (∀ f ∈ decForms d8 a16, f.encoded ∧ ∀ r, r = memValue f.operand s - 1 →
      ∃ t, exec f.instr s = .next t ∧ modifiesAt f r { s with n := r.getLsbD 7, z := r == 0 } s t) ∧
    exec .inx s = .next
      { s with x := s.x + 1, n := (s.x + 1).getLsbD 7, z := s.x + 1 == 0, pc := s.pc + 1, cycles := s.cycles + 2 } ∧
    exec .iny s = .next
      { s with y := s.y + 1, n := (s.y + 1).getLsbD 7, z := s.y + 1 == 0, pc := s.pc + 1, cycles := s.cycles + 2 } ∧
    exec .dex s = .next
      { s with x := s.x - 1, n := (s.x - 1).getLsbD 7, z := s.x - 1 == 0, pc := s.pc + 1, cycles := s.cycles + 2 } ∧
    exec .dey s = .next
      { s with y := s.y - 1, n := (s.y - 1).getLsbD 7, z := s.y - 1 == 0, pc := s.pc + 1, cycles := s.cycles + 2 }

/-- `ASL`, `LSR`, `ROL`, `ROR` on `A` and in every memory form: one position, the bit shifted out to `C`, the old `C` in at the other end for the
rotates, said bit by bit (43_incdec_shift.md R186–R189). -/
def Obligations.ShiftsAndRotates : Prop :=
  encode .aslAcc = [0x0A] ∧ encode .lsrAcc = [0x4A] ∧ encode .rolAcc = [0x2A] ∧ encode .rorAcc = [0x6A] ∧
  ∀ (s : State) (d8 : Byte) (a16 : Addr) (r : Byte),
    ((∀ k, k < 8 → r.getLsbD k = (if k = 0 then false else s.a.getLsbD (k - 1))) → exec .aslAcc s = .next
      { s with a := r, n := r.getLsbD 7, z := r == 0, c := s.a.getLsbD 7, pc := s.pc + 1, cycles := s.cycles + 2 }) ∧
    ((∀ k, k < 8 → r.getLsbD k = (if k = 7 then false else s.a.getLsbD (k + 1))) → exec .lsrAcc s = .next
      { s with a := r, n := false, z := r == 0, c := s.a.getLsbD 0, pc := s.pc + 1, cycles := s.cycles + 2 }) ∧
    ((∀ k, k < 8 → r.getLsbD k = (if k = 0 then s.c else s.a.getLsbD (k - 1))) → exec .rolAcc s = .next
      { s with a := r, n := r.getLsbD 7, z := r == 0, c := s.a.getLsbD 7, pc := s.pc + 1, cycles := s.cycles + 2 }) ∧
    ((∀ k, k < 8 → r.getLsbD k = (if k = 7 then s.c else s.a.getLsbD (k + 1))) → exec .rorAcc s = .next
      { s with a := r, n := s.c, z := r == 0, c := s.a.getLsbD 0, pc := s.pc + 1, cycles := s.cycles + 2 }) ∧
    (∀ f ∈ aslForms d8 a16, f.encoded ∧ ∀ b, b = memValue f.operand s →
      (∀ k, k < 8 → r.getLsbD k = (if k = 0 then false else b.getLsbD (k - 1))) →
      ∃ t, exec f.instr s = .next t ∧ modifiesAt f r { s with n := r.getLsbD 7, z := r == 0, c := b.getLsbD 7 } s t) ∧
    (∀ f ∈ lsrForms d8 a16, f.encoded ∧ ∀ b, b = memValue f.operand s →
      (∀ k, k < 8 → r.getLsbD k = (if k = 7 then false else b.getLsbD (k + 1))) →
      ∃ t, exec f.instr s = .next t ∧ modifiesAt f r { s with n := false, z := r == 0, c := b.getLsbD 0 } s t) ∧
    (∀ f ∈ rolForms d8 a16, f.encoded ∧ ∀ b, b = memValue f.operand s →
      (∀ k, k < 8 → r.getLsbD k = (if k = 0 then s.c else b.getLsbD (k - 1))) →
      ∃ t, exec f.instr s = .next t ∧ modifiesAt f r { s with n := r.getLsbD 7, z := r == 0, c := b.getLsbD 7 } s t) ∧
    (∀ f ∈ rorForms d8 a16, f.encoded ∧ ∀ b, b = memValue f.operand s →
      (∀ k, k < 8 → r.getLsbD k = (if k = 7 then s.c else b.getLsbD (k + 1))) →
      ∃ t, exec f.instr s = .next t ∧ modifiesAt f r { s with n := s.c, z := r == 0, c := b.getLsbD 0 } s t)

/-! ### Control transfer -/

/-- `JMP` absolute, and `JMP` indirect, whose pointer's high byte comes from the same page as its low byte (44_control.md R200, R201). -/
def Obligations.Jumps : Prop :=
  ∀ (s : State) (a16 next : Addr),
    encode (.jmpAbs a16) = [0x4C, lo a16, hi a16] ∧ encode (.jmpInd a16) = [0x6C, lo a16, hi a16] ∧
    exec (.jmpAbs a16) s = .next { s with pc := a16, cycles := s.cycles + 3 } ∧
    (next.toNat = a16.toNat / 256 * 256 + (a16.toNat + 1) % 256 →
      exec (.jmpInd a16) s = .next
        { s with
          pc := cat (busRead next (afterRead a16 s)) (busRead a16 s), cycles := s.cycles + 5
          devices := (afterRead next (afterRead a16 s)).devices })

/-- `JSR` pushes the address of its own last byte, high byte first, and jumps; `RTS` pulls low, high and adds one
(44_control.md R202, R203). Every byte of RAM but the two pushed is unchanged. -/
def Obligations.Subroutines : Prop :=
  ∀ (s : State) (a16 : Addr),
    encode (.jsr a16) = [0x20, lo a16, hi a16] ∧ encode .rts = [0x60] ∧
    (∀ u, u = busWrite (cat 0x01 (s.sp - 1)) (lo (s.pc + 2)) (busWrite (cat 0x01 s.sp) (hi (s.pc + 2)) s) →
      exec (.jsr a16) s = .next { u with sp := s.sp - 2, pc := a16, cycles := s.cycles + 6 } ∧
      ramFrame [cat 0x01 s.sp, cat 0x01 (s.sp - 1)] s u) ∧
    (∀ u, u = afterRead (cat 0x01 (s.sp + 1)) s →
      exec .rts s = .next
        { s with
          sp := s.sp + 2, pc := cat (busRead (cat 0x01 (s.sp + 2)) u) (busRead (cat 0x01 (s.sp + 1)) s) + 1
          cycles := s.cycles + 6, devices := (afterRead (cat 0x01 (s.sp + 2)) u).devices })

/-- On a stack in RAM, `RTS` after `JSR` comes back to the instruction after the `JSR` with `SP` restored and every register and flag as it
was (44_control.md R202, R203). -/
def Obligations.ReturnAfterCall : Prop :=
  ∀ (s : State) (a16 : Addr), ramBacked s (cat 0x01 s.sp) → ramBacked s (cat 0x01 (s.sp - 1)) →
    ∃ t u, exec (.jsr a16) s = .next t ∧ t.pc = a16 ∧ exec .rts t = .next u ∧
      u = { s with pc := s.pc + 3, cycles := s.cycles + 12, ram := t.ram }

/-- All eight branches: each tests its own flag and value; taken to the signed offset from the next instruction, 2 cycles not taken, 3
taken, 4 to another page than that instruction's (44_control.md R204–R212). -/
def Obligations.Branches : Prop :=
  ∀ (s : State) (d8 : Byte) (target : Addr), (target.toNat : Int) = ((s.pc.toNat : Int) + 2 + d8.toInt) % 65536 →
    ∀ b ∈ [(Instr.bcc d8, (0x90 : Byte), !s.c), (.bcs d8, 0xB0, s.c), (.beq d8, 0xF0, s.z), (.bne d8, 0xD0, !s.z),
        (.bmi d8, 0x30, s.n), (.bpl d8, 0x10, !s.n), (.bvc d8, 0x50, !s.v), (.bvs d8, 0x70, s.v)],
      encode b.1 = [b.2.1, d8] ∧
      exec b.1 s = .next
        (if b.2.2 then
          { s with
            pc := target
            cycles := s.cycles + (if target.toNat / 256 = (s.pc + 2).toNat / 256 then 3 else 4) }
        else { s with pc := s.pc + 2, cycles := s.cycles + 2 })

/-! ### Flags, `BRK`, `RTI` -/

/-- The seven flag instructions and `NOP`: one flag, or nothing, and `PC` and `cycles` (45_flags_system.md R220–R227). -/
def Obligations.FlagInstructions : Prop :=
  encode .clc = [0x18] ∧ encode .sec = [0x38] ∧ encode .cli = [0x58] ∧ encode .sei = [0x78] ∧ encode .cld = [0xD8] ∧
  encode .sed = [0xF8] ∧ encode .clv = [0xB8] ∧ encode .nop = [0xEA] ∧ ∀ s : State,
    exec .clc s = .next { s with c := false, pc := s.pc + 1, cycles := s.cycles + 2 } ∧
    exec .sec s = .next { s with c := true, pc := s.pc + 1, cycles := s.cycles + 2 } ∧
    exec .cli s = .next { s with i := false, pc := s.pc + 1, cycles := s.cycles + 2 } ∧
    exec .sei s = .next { s with i := true, pc := s.pc + 1, cycles := s.cycles + 2 } ∧
    exec .cld s = .next { s with d := false, pc := s.pc + 1, cycles := s.cycles + 2 } ∧
    exec .sed s = .next { s with d := true, pc := s.pc + 1, cycles := s.cycles + 2 } ∧
    exec .clv s = .next { s with v := false, pc := s.pc + 1, cycles := s.cycles + 2 } ∧
    exec .nop s = .next { s with pc := s.pc + 1, cycles := s.cycles + 2 }

/-- `BRK` takes the software interrupt whatever `I` is: the opcode's address plus 2 and the status byte with bit 4 set are pushed, `I` is set,
`D` is not cleared, `PC` comes from `$FFFE`; every byte of RAM but the three pushed is unchanged (45_flags_system.md R228). -/
def Obligations.BreakTakesTheInterrupt : Prop :=
  encode .brk = [0x00] ∧ ∀ s u : State, u = framePushed (s.pc + 2) (pByte true s) s →
    exec .brk s = .next
      { u with
        sp := s.sp - 3, i := true, pc := vectorAt 0xFFFE u, cycles := s.cycles + 7, devices := devicesAfterVector 0xFFFE u } ∧
    ramFrame (frameAddrs s) s u

/-- `RTI` pulls the status byte, then `PC` low and high, with no adjustment (45_flags_system.md R229). -/
def Obligations.ReturnFromInterrupt : Prop :=
  encode .rti = [0x40] ∧ ∀ (s t u : State) (p : Byte),
    p = busRead (cat 0x01 (s.sp + 1)) s → t = afterRead (cat 0x01 (s.sp + 1)) s → u = afterRead (cat 0x01 (s.sp + 2)) t →
    exec .rti s = .next
      { s with
        n := p.getLsbD 7, v := p.getLsbD 6, d := p.getLsbD 3, i := p.getLsbD 2, z := p.getLsbD 1, c := p.getLsbD 0
        sp := s.sp + 3, pc := cat (busRead (cat 0x01 (s.sp + 3)) u) (busRead (cat 0x01 (s.sp + 2)) t), cycles := s.cycles + 6
        devices := (afterRead (cat 0x01 (s.sp + 3)) u).devices }

/-- On a stack in RAM, `RTI` undoes an NMI or IRQ entry: `PC`, `SP` and all six flags are what they were, and `A X Y`
(60_exceptions.md R268, R275). -/
def Obligations.ReturnUndoesEntry : Prop :=
  ∀ (s : State) (kind : InterruptKind), (∀ a ∈ frameAddrs s, ramBacked s a) →
    ∃ u, exec .rti (enter kind s) = .next u ∧ u.pc = s.pc ∧ u.sp = s.sp ∧ u.a = s.a ∧ u.x = s.x ∧ u.y = s.y ∧
      u.n = s.n ∧ u.v = s.v ∧ u.d = s.d ∧ u.i = s.i ∧ u.z = s.z ∧ u.c = s.c ∧ u.cycles = s.cycles + 13 ∧ u.latch = s.latch

/-! ### The composites -/

/-- The six read-modify-write composites in every form: the byte is decremented, incremented, shifted or rotated where it lies, and `A` is then
compared, subtracted from, or combined with the new byte (46_undocumented.md R243–R248). -/
def Obligations.Composites : Prop :=
  ∀ (s : State) (d8 : Byte) (a16 : Addr) (b r : Byte) (out : AluOut),
    (∀ f ∈ dcpForms d8 a16, f.encoded ∧ (b = memValue f.operand s → r = b - 1 → ∃ t, exec f.instr s = .next t ∧
      modifiesAt f r { s with n := (s.a - r).getLsbD 7, z := s.a == r, c := decide (r.toNat ≤ s.a.toNat) } s t)) ∧
    (∀ f ∈ iscForms d8 a16, f.encoded ∧ (b = memValue f.operand s → r = b + 1 →
      out = (if s.d then decimal s.cfg.decimal .sbc s.a r s.c else sbcBinary s.a r s.c) → ∃ t, exec f.instr s = .next t ∧
      modifiesAt f r { s with a := out.acc, n := out.n, v := out.v, z := out.z, c := out.c } s t)) ∧
    (∀ f ∈ sloForms d8 a16, f.encoded ∧ (b = memValue f.operand s → r.toNat = b.toNat * 2 % 256 → ∃ t, exec f.instr s = .next t ∧
      modifiesAt f r { s with a := s.a ||| r, n := (s.a ||| r).getLsbD 7, z := s.a ||| r == 0, c := b.getLsbD 7 } s t)) ∧
    (∀ f ∈ rlaForms d8 a16, f.encoded ∧ (b = memValue f.operand s → r.toNat = (b.toNat * 2 + (if s.c then 1 else 0)) % 256 →
      ∃ t, exec f.instr s = .next t ∧
      modifiesAt f r { s with a := s.a &&& r, n := (s.a &&& r).getLsbD 7, z := s.a &&& r == 0, c := b.getLsbD 7 } s t)) ∧
    (∀ f ∈ sreForms d8 a16, f.encoded ∧ (b = memValue f.operand s → r.toNat = b.toNat / 2 → ∃ t, exec f.instr s = .next t ∧
      modifiesAt f r { s with a := s.a ^^^ r, n := (s.a ^^^ r).getLsbD 7, z := s.a ^^^ r == 0, c := b.getLsbD 0 } s t)) ∧
    (∀ f ∈ rraForms d8 a16, f.encoded ∧ (b = memValue f.operand s → r.toNat = b.toNat / 2 + (if s.c then 128 else 0) →
      out = (if s.d then decimal s.cfg.decimal .adc s.a r (b.getLsbD 0) else adcBinary s.a r (b.getLsbD 0)) →
      ∃ t, exec f.instr s = .next t ∧
      modifiesAt f r { s with a := out.acc, n := out.n, v := out.v, z := out.z, c := out.c } s t))

/-- Each read-modify-write composite is the sequence of its two documented instructions on one address: on a byte in RAM the two runs end
in states that differ in `PC` and `cycles` only (46_undocumented.md R240). -/
def Obligations.CompositesAreSequences : Prop :=
  ∀ (s : State) (d8 : Byte) (a16 : Addr), ∀ q ∈ compositePairs d8 a16, ramBacked s (effAddr q.2.2.2 s) →
    ∃ t u w, exec q.1 s = .next t ∧ exec q.2.1 s = .next u ∧ exec q.2.2.1 u = .next w ∧
      t = { w with pc := t.pc, cycles := t.cycles }

/-! ### Reset and the host -/

/-- `reset()` from any state, the faulted one too: latch, interrupt latches, fault record, flags, `SP` and `cycles` take their values, `PC` is
read from `$FFFC` through the map of the reset latch, and `A X Y` and RAM are unchanged (70_reset_and_hazards.md R300, 10_state.md
R39). -/
def Obligations.ResetTransition : Prop :=
  ∀ s u : State,
    u = { s with
      latch := 0x37, fault := none, nmiPending := false, irqPending := false, n := false, v := false, d := false, z := false, c := false
      i := true, sp := 0xFD, cycles := 0 } →
    resetMachine s = { u with pc := vectorAt 0xFFFC u, devices := devicesAfterVector 0xFFFC u }

/-- After a reset the flags, `SP`, the latch, `cycles`, the interrupt latches and the fault record have the values R39 gives, and `PC` is the
word at the reset vector as the bus then shows it (10_state.md R39). -/
def Obligations.ResetStateValues : Prop :=
  State.reset.i = true ∧ State.reset.n = false ∧ State.reset.v = false ∧ State.reset.d = false ∧ State.reset.z = false ∧
  State.reset.c = false ∧ State.reset.sp = 0xFD ∧ State.reset.latch = 0x37 ∧ State.reset.cycles = 0 ∧
  State.reset.nmiPending = false ∧ State.reset.irqPending = false ∧ State.reset.fault = none ∧
  State.reset.pc = vectorAt 0xFFFC State.reset

/-- A snapshot loaded gives back all that it recorded, whatever happened in between, with the `nmi_pending` it is given; in the faulted
state there is neither save nor load (70_reset_and_hazards.md R324). nmi_pending after the load is an argument, and the two operations
answer nothing in the faulted state: the model's choices, notes/assumptions/9.md. -/
def Obligations.SnapshotRoundTrip : Prop :=
  ∀ (s t : State) (nmi : Bool), s.fault = none → t.fault = none →
    (∃ k, saveSnapshot s = some k ∧
      loadSnapshot k nmi t = some
        { s with
          nmiPending := nmi, irqPending := t.irqPending, fault := none, irqSignals := t.irqSignals, cfg := t.cfg
          freeCount := t.freeCount }) ∧
    ∀ f k, saveSnapshot { s with fault := some f } = none ∧ loadSnapshot k nmi { s with fault := some f } = none

/-- `run_until`: with a fault it reports it; where the predicate holds it stops; at a breakpoint, but for the first time round, it stops
with `PC` there and nothing executed; otherwise it makes one step, with the environment before and after it, and goes on. A breakpoint
report means that the run stands at a breakpoint, and a run is the same however it is cut into slices (70_reset_and_hazards.md R321,
R325). What the environment does around the steps of a run is a list given to it: the model's choice, notes/assumptions/4.md. -/
def Obligations.BreakpointsAndSlices : Prop :=
  ∀ (pred : State → Bool) (breakpoints : List Addr) (first : Bool) (s : State),
    (∀ schedule op pc, s.fault = some (op, pc) → runUntil pred breakpoints schedule first s = (.error op pc, s)) ∧
    (∀ schedule, s.fault = none → pred s = true → runUntil pred breakpoints schedule first s = (.stopped, s)) ∧
    (∀ schedule, s.fault = none → pred s = false → s.pc ∈ breakpoints →
      runUntil pred breakpoints schedule false s = (.breakpoint s.pc, s)) ∧
    (∀ e rest t, s.fault = none → pred s = false → (first = true ∨ s.pc ∉ breakpoints) → step (environments e.before s) = .next t →
      runUntil pred breakpoints (e :: rest) first s = runUntil pred breakpoints rest false (environments e.after t)) ∧
    (∀ schedule k t, runUntil pred breakpoints schedule first s = (.breakpoint k, t) →
      t.pc = k ∧ k ∈ breakpoints ∧ t.fault = none) ∧
    (∀ one two t, runUntil pred breakpoints one first s = (.sliceEnd, t) →
      runUntil pred breakpoints (one ++ two) first s = runUntil pred breakpoints two (first && one.isEmpty) t)

/-- `step()` as the host sees it: it reports the cycles added, a positive number, or the fault that the step raised; a report of cycles
means such a step; in the faulted state it reports the fault and the state is untouched (70_reset_and_hazards.md R320, 10_state.md R30).
That a configuration which breaks 20_memory.md R63 is refused first is the model's choice, notes/assumptions/10.md. -/
def Obligations.HostStepReports : Prop :=
  ∀ s : State,
    (∀ t, step s = .next t → t.fault = none → hostStep s = (.consumed (t.cycles - s.cycles), t) ∧ s.cycles < t.cycles) ∧
    (∀ t op pc, step s = .next t → t.fault = some (op, pc) → hostStep s = (.error op pc, t)) ∧
    (∀ n t, hostStep s = (.consumed n, t) → step s = .next t ∧ t.fault = none ∧ t.cycles = s.cycles + n) ∧
    (∀ op pc, s.cfg.wellFormed = true → s.fault = some (op, pc) → hostStep s = (.error op pc, s))

/-- What the host and the environment change between transitions: an NMI request only the latch, a second one nothing more; an edit of `A`,
`X`, `Y`, `SP`, `PC` or a single flag that item alone, a status edit the six flags, bits 5 and 4 ignored; a memory edit what a bus write
does, and no cycles; a host write of any one item of the state that item alone, a byte of RAM without the bus (10_state.md R40,
60_exceptions.md R262, R286; 70_reset_and_hazards.md R322, R323). That the host has the writes for which R322 names no command is the
model's choice, notes/assumptions/15.md. -/
def Obligations.EditsBetweenTransitions : Prop :=
  ∀ (s : State) (b : Byte) (a : Addr),
    environment .nmiRequest s = { s with nmiPending := true } ∧
    environments [.nmiRequest, .nmiRequest] s = environment .nmiRequest s ∧
    editRegister (.status b) s =
      { s with
        n := b.getLsbD 7, v := b.getLsbD 6, d := b.getLsbD 3, i := b.getLsbD 2, z := b.getLsbD 1, c := b.getLsbD 0 } ∧
    editRegister (.a b) s = { s with a := b } ∧ editRegister (.x b) s = { s with x := b } ∧ editRegister (.y b) s = { s with y := b } ∧
    editRegister (.sp b) s = { s with sp := b } ∧ editRegister (.pc a) s = { s with pc := a } ∧
    (∀ w, editRegister (.flag .n w) s = { s with n := w }) ∧ (∀ w, editRegister (.flag .v w) s = { s with v := w }) ∧
    (∀ w, editRegister (.flag .d w) s = { s with d := w }) ∧ (∀ w, editRegister (.flag .i w) s = { s with i := w }) ∧
    (∀ w, editRegister (.flag .z w) s = { s with z := w }) ∧ (∀ w, editRegister (.flag .c w) s = { s with c := w }) ∧
    editMemory a b s = busWrite a b s ∧ (editMemory a b s).cycles = s.cycles ∧
    (∀ e, editState (.register e) s = editRegister e s) ∧ (∀ n, editState (.cycles n) s = { s with cycles := n }) ∧
    (∀ w, editState (.nmiPending w) s = { s with nmiPending := w }) ∧ (∀ w, editState (.irqPending w) s = { s with irqPending := w }) ∧
    editState (.latch b) s = { s with latch := b } ∧ (∀ f, editState (.fault f) s = { s with fault := f }) ∧
    editState (.ram a b) s = { s with ram := (editState (.ram a b) s).ram } ∧
    ramRead (editState (.ram a b) s).ram a.toNat = b ∧ ramFrame [a] s (editState (.ram a b) s)
end

