-- ==== Sys2Proof/Laws/Ram.lean ====
section
/-! SUPPORT. RAM as a list of cells: reading after writing, and the canonical form, which every memory operation keeps. -/

namespace Sys2Proof.Machine

theorem ramRead_insertCell_same (k : Nat) (b : Byte) (m : Memory) (hm : ∀ cell ∈ m, cell.1 ≠ k) :
    ramRead (insertCell k b m) k = b := by
  induction m with
  | nil => simp [insertCell, ramRead]
  | cons cell rest ih =>
    obtain ⟨k', b'⟩ := cell
    have hk : k' ≠ k := hm (k', b') (by simp)
    have hrest : ∀ c ∈ rest, c.1 ≠ k := fun c hc => hm c (by simp [hc])
    by_cases h : k < k'
    · simp [insertCell, h, ramRead]
    · simp [insertCell, h, ramRead, hk, ih hrest]

theorem ramRead_insertCell_other (k j : Nat) (b : Byte) (m : Memory) (h : j ≠ k) :
    ramRead (insertCell k b m) j = ramRead m j := by
  induction m with
  | nil => simp [insertCell, ramRead, h.symm]
  | cons cell rest ih =>
    obtain ⟨k', b'⟩ := cell
    by_cases hk : k < k' <;> simp [insertCell, hk, ramRead, h.symm, ih]

theorem ramRead_absent (m : Memory) (k : Nat) (hm : ∀ cell ∈ m, cell.1 ≠ k) : ramRead m k = ramFill := by
  induction m with
  | nil => rfl
  | cons cell rest ih =>
    obtain ⟨k', b'⟩ := cell
    have hk : k' ≠ k := hm (k', b') (by simp)
    simp [ramRead, hk, ih fun c hc => hm c (by simp [hc])]

theorem ramRead_filter_other (m : Memory) (k j : Nat) (h : j ≠ k) :
    ramRead (m.filter fun cell => cell.1 != k) j = ramRead m j := by
  induction m with
  | nil => rfl
  | cons cell rest ih =>
    obtain ⟨k', b'⟩ := cell
    by_cases hk : k' = k
    · subst hk
      simp [ramRead, h.symm, ih]
    · simp [hk, ramRead, ih]

theorem filter_ne_absent (m : Memory) (k : Nat) : ∀ cell ∈ m.filter (fun cell => cell.1 != k), cell.1 ≠ k := by
  intro cell hc
  simpa using (List.mem_filter.mp hc).2

/-- A read of the byte just written gives it, whatever the list was (20_memory.md R69). -/
@[simp] theorem ramRead_ramWrite_same (m : Memory) (k : Nat) (b : Byte) : ramRead (ramWrite m k b) k = b := by
  unfold ramWrite
  by_cases hb : b = ramFill
  · simp [hb, ramRead_absent _ _ (filter_ne_absent m k)]
  · simp [hb, ramRead_insertCell_same _ _ _ (filter_ne_absent m k)]

/-- A write leaves every other byte alone (20_memory.md R69). -/
theorem ramRead_ramWrite_other (m : Memory) (k j : Nat) (b : Byte) (h : j ≠ k) :
    ramRead (ramWrite m k b) j = ramRead m j := by
  unfold ramWrite
  by_cases hb : b = ramFill
  · simp [hb, ramRead_filter_other m k j h]
  · simp [hb, ramRead_insertCell_other _ _ _ _ h, ramRead_filter_other m k j h]

theorem mem_insertCell (k : Nat) (b : Byte) (m : Memory) (cell : Host.Cell) :
    cell ∈ insertCell k b m ↔ cell = (k, b) ∨ cell ∈ m := by
  induction m with
  | nil => simp [insertCell]
  | cons c rest ih =>
    obtain ⟨k', b'⟩ := c
    by_cases h : k < k'
    · simp [insertCell, h]
    · simp only [insertCell, h, if_false, List.mem_cons, ih]
      tauto

theorem insertCell_sorted (k : Nat) (b : Byte) (m : Memory) (hs : m.Pairwise fun p q => p.1 < q.1)
    (hm : ∀ cell ∈ m, cell.1 ≠ k) : (insertCell k b m).Pairwise fun p q => p.1 < q.1 := by
  induction m with
  | nil => simp [insertCell]
  | cons c rest ih =>
    obtain ⟨k', b'⟩ := c
    obtain ⟨hhead, htail⟩ := List.pairwise_cons.mp hs
    have hk : k' ≠ k := hm (k', b') (by simp)
    by_cases h : k < k'
    · simp only [insertCell, h, if_true]
      refine List.pairwise_cons.mpr ⟨fun q hq => ?_, hs⟩
      rcases List.mem_cons.mp hq with rfl | hq
      · exact h
      · exact lt_trans h (hhead q hq)
    · simp only [insertCell, h, if_false]
      refine List.pairwise_cons.mpr ⟨fun q hq => ?_, ih htail fun c hc => hm c (by simp [hc])⟩
      rcases (mem_insertCell k b rest q).mp hq with rfl | hq
      · exact lt_of_le_of_ne (not_lt.mp h) hk
      · exact hhead q hq

/-- Every write inside the 64 KiB space keeps the canonical form. -/
theorem ramWrite_wf (m : Memory) (k : Nat) (b : Byte) (hk : k < 65536) (hm : Memory.wf m) : Memory.wf (ramWrite m k b) := by
  obtain ⟨hs, hc⟩ := hm
  have hs' : (m.filter fun cell => cell.1 != k).Pairwise fun p q => p.1 < q.1 := hs.filter _
  have hc' : ∀ cell ∈ m.filter (fun cell => cell.1 != k), cell.1 < 65536 ∧ cell.2 ≠ ramFill :=
    fun cell h => hc cell (List.mem_filter.mp h).1
  unfold ramWrite
  by_cases hb : b = ramFill
  · simpa [hb] using ⟨hs', hc'⟩
  · simp only [hb, if_false]
    refine ⟨insertCell_sorted k b _ hs' (filter_ne_absent m k), fun cell h => ?_⟩
    rcases (mem_insertCell k b _ cell).mp h with rfl | h
    · exact ⟨hk, hb⟩
    · exact hc' cell h

/-- A program load keeps the canonical form. -/
theorem storeBytes_wf (bytes : List Byte) (k : Addr) (m : Memory) (hm : Memory.wf m) : Memory.wf (storeBytes bytes k m) := by
  induction bytes generalizing k m with
  | nil => exact hm
  | cons b rest ih => exact ih _ _ (ramWrite_wf _ _ _ k.isLt hm)

end Sys2Proof.Machine
end

