-- ==== Sys2Proof/Laws/State.lean ====
section
/-! SUPPORT. What each operation does to each field of the state, one lemma for each, all true by unfolding. -/

namespace Sys2Proof.Machine

/-! ### `setC` -/

@[simp] theorem setC_a (b : Bool) (s : State) : (setC b s).a = s.a := rfl
@[simp] theorem setC_x (b : Bool) (s : State) : (setC b s).x = s.x := rfl
@[simp] theorem setC_y (b : Bool) (s : State) : (setC b s).y = s.y := rfl
@[simp] theorem setC_sp (b : Bool) (s : State) : (setC b s).sp = s.sp := rfl
@[simp] theorem setC_pc (b : Bool) (s : State) : (setC b s).pc = s.pc := rfl
@[simp] theorem setC_n (b : Bool) (s : State) : (setC b s).n = s.n := rfl
@[simp] theorem setC_v (b : Bool) (s : State) : (setC b s).v = s.v := rfl
@[simp] theorem setC_d (b : Bool) (s : State) : (setC b s).d = s.d := rfl
@[simp] theorem setC_i (b : Bool) (s : State) : (setC b s).i = s.i := rfl
@[simp] theorem setC_z (b : Bool) (s : State) : (setC b s).z = s.z := rfl
@[simp] theorem setC_c (b : Bool) (s : State) : (setC b s).c = b := rfl
@[simp] theorem setC_cycles (b : Bool) (s : State) : (setC b s).cycles = s.cycles := rfl
@[simp] theorem setC_nmiPending (b : Bool) (s : State) : (setC b s).nmiPending = s.nmiPending := rfl
@[simp] theorem setC_irqPending (b : Bool) (s : State) : (setC b s).irqPending = s.irqPending := rfl
@[simp] theorem setC_latch (b : Bool) (s : State) : (setC b s).latch = s.latch := rfl
@[simp] theorem setC_ram (b : Bool) (s : State) : (setC b s).ram = s.ram := rfl
@[simp] theorem setC_fault (b : Bool) (s : State) : (setC b s).fault = s.fault := rfl
@[simp] theorem setC_irqSignals (b : Bool) (s : State) : (setC b s).irqSignals = s.irqSignals := rfl
@[simp] theorem setC_devices (b : Bool) (s : State) : (setC b s).devices = s.devices := rfl
@[simp] theorem setC_cfg (b : Bool) (s : State) : (setC b s).cfg = s.cfg := rfl
@[simp] theorem setC_freeCount (b : Bool) (s : State) : (setC b s).freeCount = s.freeCount := rfl

/-! ### `setI` -/

@[simp] theorem setI_a (b : Bool) (s : State) : (setI b s).a = s.a := rfl
@[simp] theorem setI_x (b : Bool) (s : State) : (setI b s).x = s.x := rfl
@[simp] theorem setI_y (b : Bool) (s : State) : (setI b s).y = s.y := rfl
@[simp] theorem setI_sp (b : Bool) (s : State) : (setI b s).sp = s.sp := rfl
@[simp] theorem setI_pc (b : Bool) (s : State) : (setI b s).pc = s.pc := rfl
@[simp] theorem setI_n (b : Bool) (s : State) : (setI b s).n = s.n := rfl
@[simp] theorem setI_v (b : Bool) (s : State) : (setI b s).v = s.v := rfl
@[simp] theorem setI_d (b : Bool) (s : State) : (setI b s).d = s.d := rfl
@[simp] theorem setI_i (b : Bool) (s : State) : (setI b s).i = b := rfl
@[simp] theorem setI_z (b : Bool) (s : State) : (setI b s).z = s.z := rfl
@[simp] theorem setI_c (b : Bool) (s : State) : (setI b s).c = s.c := rfl
@[simp] theorem setI_cycles (b : Bool) (s : State) : (setI b s).cycles = s.cycles := rfl
@[simp] theorem setI_nmiPending (b : Bool) (s : State) : (setI b s).nmiPending = s.nmiPending := rfl
@[simp] theorem setI_irqPending (b : Bool) (s : State) : (setI b s).irqPending = s.irqPending := rfl
@[simp] theorem setI_latch (b : Bool) (s : State) : (setI b s).latch = s.latch := rfl
@[simp] theorem setI_ram (b : Bool) (s : State) : (setI b s).ram = s.ram := rfl
@[simp] theorem setI_fault (b : Bool) (s : State) : (setI b s).fault = s.fault := rfl
@[simp] theorem setI_irqSignals (b : Bool) (s : State) : (setI b s).irqSignals = s.irqSignals := rfl
@[simp] theorem setI_devices (b : Bool) (s : State) : (setI b s).devices = s.devices := rfl
@[simp] theorem setI_cfg (b : Bool) (s : State) : (setI b s).cfg = s.cfg := rfl
@[simp] theorem setI_freeCount (b : Bool) (s : State) : (setI b s).freeCount = s.freeCount := rfl

/-! ### `setD` -/

@[simp] theorem setD_a (b : Bool) (s : State) : (setD b s).a = s.a := rfl
@[simp] theorem setD_x (b : Bool) (s : State) : (setD b s).x = s.x := rfl
@[simp] theorem setD_y (b : Bool) (s : State) : (setD b s).y = s.y := rfl
@[simp] theorem setD_sp (b : Bool) (s : State) : (setD b s).sp = s.sp := rfl
@[simp] theorem setD_pc (b : Bool) (s : State) : (setD b s).pc = s.pc := rfl
@[simp] theorem setD_n (b : Bool) (s : State) : (setD b s).n = s.n := rfl
@[simp] theorem setD_v (b : Bool) (s : State) : (setD b s).v = s.v := rfl
@[simp] theorem setD_d (b : Bool) (s : State) : (setD b s).d = b := rfl
@[simp] theorem setD_i (b : Bool) (s : State) : (setD b s).i = s.i := rfl
@[simp] theorem setD_z (b : Bool) (s : State) : (setD b s).z = s.z := rfl
@[simp] theorem setD_c (b : Bool) (s : State) : (setD b s).c = s.c := rfl
@[simp] theorem setD_cycles (b : Bool) (s : State) : (setD b s).cycles = s.cycles := rfl
@[simp] theorem setD_nmiPending (b : Bool) (s : State) : (setD b s).nmiPending = s.nmiPending := rfl
@[simp] theorem setD_irqPending (b : Bool) (s : State) : (setD b s).irqPending = s.irqPending := rfl
@[simp] theorem setD_latch (b : Bool) (s : State) : (setD b s).latch = s.latch := rfl
@[simp] theorem setD_ram (b : Bool) (s : State) : (setD b s).ram = s.ram := rfl
@[simp] theorem setD_fault (b : Bool) (s : State) : (setD b s).fault = s.fault := rfl
@[simp] theorem setD_irqSignals (b : Bool) (s : State) : (setD b s).irqSignals = s.irqSignals := rfl
@[simp] theorem setD_devices (b : Bool) (s : State) : (setD b s).devices = s.devices := rfl
@[simp] theorem setD_cfg (b : Bool) (s : State) : (setD b s).cfg = s.cfg := rfl
@[simp] theorem setD_freeCount (b : Bool) (s : State) : (setD b s).freeCount = s.freeCount := rfl

/-! ### `setV` -/

@[simp] theorem setV_a (b : Bool) (s : State) : (setV b s).a = s.a := rfl
@[simp] theorem setV_x (b : Bool) (s : State) : (setV b s).x = s.x := rfl
@[simp] theorem setV_y (b : Bool) (s : State) : (setV b s).y = s.y := rfl
@[simp] theorem setV_sp (b : Bool) (s : State) : (setV b s).sp = s.sp := rfl
@[simp] theorem setV_pc (b : Bool) (s : State) : (setV b s).pc = s.pc := rfl
@[simp] theorem setV_n (b : Bool) (s : State) : (setV b s).n = s.n := rfl
@[simp] theorem setV_v (b : Bool) (s : State) : (setV b s).v = b := rfl
@[simp] theorem setV_d (b : Bool) (s : State) : (setV b s).d = s.d := rfl
@[simp] theorem setV_i (b : Bool) (s : State) : (setV b s).i = s.i := rfl
@[simp] theorem setV_z (b : Bool) (s : State) : (setV b s).z = s.z := rfl
@[simp] theorem setV_c (b : Bool) (s : State) : (setV b s).c = s.c := rfl
@[simp] theorem setV_cycles (b : Bool) (s : State) : (setV b s).cycles = s.cycles := rfl
@[simp] theorem setV_nmiPending (b : Bool) (s : State) : (setV b s).nmiPending = s.nmiPending := rfl
@[simp] theorem setV_irqPending (b : Bool) (s : State) : (setV b s).irqPending = s.irqPending := rfl
@[simp] theorem setV_latch (b : Bool) (s : State) : (setV b s).latch = s.latch := rfl
@[simp] theorem setV_ram (b : Bool) (s : State) : (setV b s).ram = s.ram := rfl
@[simp] theorem setV_fault (b : Bool) (s : State) : (setV b s).fault = s.fault := rfl
@[simp] theorem setV_irqSignals (b : Bool) (s : State) : (setV b s).irqSignals = s.irqSignals := rfl
@[simp] theorem setV_devices (b : Bool) (s : State) : (setV b s).devices = s.devices := rfl
@[simp] theorem setV_cfg (b : Bool) (s : State) : (setV b s).cfg = s.cfg := rfl
@[simp] theorem setV_freeCount (b : Bool) (s : State) : (setV b s).freeCount = s.freeCount := rfl

/-! ### `setA` -/

@[simp] theorem setA_a (b : Byte) (s : State) : (setA b s).a = b := rfl
@[simp] theorem setA_x (b : Byte) (s : State) : (setA b s).x = s.x := rfl
@[simp] theorem setA_y (b : Byte) (s : State) : (setA b s).y = s.y := rfl
@[simp] theorem setA_sp (b : Byte) (s : State) : (setA b s).sp = s.sp := rfl
@[simp] theorem setA_pc (b : Byte) (s : State) : (setA b s).pc = s.pc := rfl
@[simp] theorem setA_n (b : Byte) (s : State) : (setA b s).n = s.n := rfl
@[simp] theorem setA_v (b : Byte) (s : State) : (setA b s).v = s.v := rfl
@[simp] theorem setA_d (b : Byte) (s : State) : (setA b s).d = s.d := rfl
@[simp] theorem setA_i (b : Byte) (s : State) : (setA b s).i = s.i := rfl
@[simp] theorem setA_z (b : Byte) (s : State) : (setA b s).z = s.z := rfl
@[simp] theorem setA_c (b : Byte) (s : State) : (setA b s).c = s.c := rfl
@[simp] theorem setA_cycles (b : Byte) (s : State) : (setA b s).cycles = s.cycles := rfl
@[simp] theorem setA_nmiPending (b : Byte) (s : State) : (setA b s).nmiPending = s.nmiPending := rfl
@[simp] theorem setA_irqPending (b : Byte) (s : State) : (setA b s).irqPending = s.irqPending := rfl
@[simp] theorem setA_latch (b : Byte) (s : State) : (setA b s).latch = s.latch := rfl
@[simp] theorem setA_ram (b : Byte) (s : State) : (setA b s).ram = s.ram := rfl
@[simp] theorem setA_fault (b : Byte) (s : State) : (setA b s).fault = s.fault := rfl
@[simp] theorem setA_irqSignals (b : Byte) (s : State) : (setA b s).irqSignals = s.irqSignals := rfl
@[simp] theorem setA_devices (b : Byte) (s : State) : (setA b s).devices = s.devices := rfl
@[simp] theorem setA_cfg (b : Byte) (s : State) : (setA b s).cfg = s.cfg := rfl
@[simp] theorem setA_freeCount (b : Byte) (s : State) : (setA b s).freeCount = s.freeCount := rfl

/-! ### `setSp` -/

@[simp] theorem setSp_a (b : Byte) (s : State) : (setSp b s).a = s.a := rfl
@[simp] theorem setSp_x (b : Byte) (s : State) : (setSp b s).x = s.x := rfl
@[simp] theorem setSp_y (b : Byte) (s : State) : (setSp b s).y = s.y := rfl
@[simp] theorem setSp_sp (b : Byte) (s : State) : (setSp b s).sp = b := rfl
@[simp] theorem setSp_pc (b : Byte) (s : State) : (setSp b s).pc = s.pc := rfl
@[simp] theorem setSp_n (b : Byte) (s : State) : (setSp b s).n = s.n := rfl
@[simp] theorem setSp_v (b : Byte) (s : State) : (setSp b s).v = s.v := rfl
@[simp] theorem setSp_d (b : Byte) (s : State) : (setSp b s).d = s.d := rfl
@[simp] theorem setSp_i (b : Byte) (s : State) : (setSp b s).i = s.i := rfl
@[simp] theorem setSp_z (b : Byte) (s : State) : (setSp b s).z = s.z := rfl
@[simp] theorem setSp_c (b : Byte) (s : State) : (setSp b s).c = s.c := rfl
@[simp] theorem setSp_cycles (b : Byte) (s : State) : (setSp b s).cycles = s.cycles := rfl
@[simp] theorem setSp_nmiPending (b : Byte) (s : State) : (setSp b s).nmiPending = s.nmiPending := rfl
@[simp] theorem setSp_irqPending (b : Byte) (s : State) : (setSp b s).irqPending = s.irqPending := rfl
@[simp] theorem setSp_latch (b : Byte) (s : State) : (setSp b s).latch = s.latch := rfl
@[simp] theorem setSp_ram (b : Byte) (s : State) : (setSp b s).ram = s.ram := rfl
@[simp] theorem setSp_fault (b : Byte) (s : State) : (setSp b s).fault = s.fault := rfl
@[simp] theorem setSp_irqSignals (b : Byte) (s : State) : (setSp b s).irqSignals = s.irqSignals := rfl
@[simp] theorem setSp_devices (b : Byte) (s : State) : (setSp b s).devices = s.devices := rfl
@[simp] theorem setSp_cfg (b : Byte) (s : State) : (setSp b s).cfg = s.cfg := rfl
@[simp] theorem setSp_freeCount (b : Byte) (s : State) : (setSp b s).freeCount = s.freeCount := rfl

/-! ### `setPc` -/

@[simp] theorem setPc_a (k : Addr) (s : State) : (setPc k s).a = s.a := rfl
@[simp] theorem setPc_x (k : Addr) (s : State) : (setPc k s).x = s.x := rfl
@[simp] theorem setPc_y (k : Addr) (s : State) : (setPc k s).y = s.y := rfl
@[simp] theorem setPc_sp (k : Addr) (s : State) : (setPc k s).sp = s.sp := rfl
@[simp] theorem setPc_pc (k : Addr) (s : State) : (setPc k s).pc = k := rfl
@[simp] theorem setPc_n (k : Addr) (s : State) : (setPc k s).n = s.n := rfl
@[simp] theorem setPc_v (k : Addr) (s : State) : (setPc k s).v = s.v := rfl
@[simp] theorem setPc_d (k : Addr) (s : State) : (setPc k s).d = s.d := rfl
@[simp] theorem setPc_i (k : Addr) (s : State) : (setPc k s).i = s.i := rfl
@[simp] theorem setPc_z (k : Addr) (s : State) : (setPc k s).z = s.z := rfl
@[simp] theorem setPc_c (k : Addr) (s : State) : (setPc k s).c = s.c := rfl
@[simp] theorem setPc_cycles (k : Addr) (s : State) : (setPc k s).cycles = s.cycles := rfl
@[simp] theorem setPc_nmiPending (k : Addr) (s : State) : (setPc k s).nmiPending = s.nmiPending := rfl
@[simp] theorem setPc_irqPending (k : Addr) (s : State) : (setPc k s).irqPending = s.irqPending := rfl
@[simp] theorem setPc_latch (k : Addr) (s : State) : (setPc k s).latch = s.latch := rfl
@[simp] theorem setPc_ram (k : Addr) (s : State) : (setPc k s).ram = s.ram := rfl
@[simp] theorem setPc_fault (k : Addr) (s : State) : (setPc k s).fault = s.fault := rfl
@[simp] theorem setPc_irqSignals (k : Addr) (s : State) : (setPc k s).irqSignals = s.irqSignals := rfl
@[simp] theorem setPc_devices (k : Addr) (s : State) : (setPc k s).devices = s.devices := rfl
@[simp] theorem setPc_cfg (k : Addr) (s : State) : (setPc k s).cfg = s.cfg := rfl
@[simp] theorem setPc_freeCount (k : Addr) (s : State) : (setPc k s).freeCount = s.freeCount := rfl

/-! ### `clearNmi` -/

@[simp] theorem clearNmi_a (s : State) : (clearNmi s).a = s.a := rfl
@[simp] theorem clearNmi_x (s : State) : (clearNmi s).x = s.x := rfl
@[simp] theorem clearNmi_y (s : State) : (clearNmi s).y = s.y := rfl
@[simp] theorem clearNmi_sp (s : State) : (clearNmi s).sp = s.sp := rfl
@[simp] theorem clearNmi_pc (s : State) : (clearNmi s).pc = s.pc := rfl
@[simp] theorem clearNmi_n (s : State) : (clearNmi s).n = s.n := rfl
@[simp] theorem clearNmi_v (s : State) : (clearNmi s).v = s.v := rfl
@[simp] theorem clearNmi_d (s : State) : (clearNmi s).d = s.d := rfl
@[simp] theorem clearNmi_i (s : State) : (clearNmi s).i = s.i := rfl
@[simp] theorem clearNmi_z (s : State) : (clearNmi s).z = s.z := rfl
@[simp] theorem clearNmi_c (s : State) : (clearNmi s).c = s.c := rfl
@[simp] theorem clearNmi_cycles (s : State) : (clearNmi s).cycles = s.cycles := rfl
@[simp] theorem clearNmi_nmiPending (s : State) : (clearNmi s).nmiPending = false := rfl
@[simp] theorem clearNmi_irqPending (s : State) : (clearNmi s).irqPending = s.irqPending := rfl
@[simp] theorem clearNmi_latch (s : State) : (clearNmi s).latch = s.latch := rfl
@[simp] theorem clearNmi_ram (s : State) : (clearNmi s).ram = s.ram := rfl
@[simp] theorem clearNmi_fault (s : State) : (clearNmi s).fault = s.fault := rfl
@[simp] theorem clearNmi_irqSignals (s : State) : (clearNmi s).irqSignals = s.irqSignals := rfl
@[simp] theorem clearNmi_devices (s : State) : (clearNmi s).devices = s.devices := rfl
@[simp] theorem clearNmi_cfg (s : State) : (clearNmi s).cfg = s.cfg := rfl
@[simp] theorem clearNmi_freeCount (s : State) : (clearNmi s).freeCount = s.freeCount := rfl

/-! ### `clearIrq` -/

@[simp] theorem clearIrq_a (s : State) : (clearIrq s).a = s.a := rfl
@[simp] theorem clearIrq_x (s : State) : (clearIrq s).x = s.x := rfl
@[simp] theorem clearIrq_y (s : State) : (clearIrq s).y = s.y := rfl
@[simp] theorem clearIrq_sp (s : State) : (clearIrq s).sp = s.sp := rfl
@[simp] theorem clearIrq_pc (s : State) : (clearIrq s).pc = s.pc := rfl
@[simp] theorem clearIrq_n (s : State) : (clearIrq s).n = s.n := rfl
@[simp] theorem clearIrq_v (s : State) : (clearIrq s).v = s.v := rfl
@[simp] theorem clearIrq_d (s : State) : (clearIrq s).d = s.d := rfl
@[simp] theorem clearIrq_i (s : State) : (clearIrq s).i = s.i := rfl
@[simp] theorem clearIrq_z (s : State) : (clearIrq s).z = s.z := rfl
@[simp] theorem clearIrq_c (s : State) : (clearIrq s).c = s.c := rfl
@[simp] theorem clearIrq_cycles (s : State) : (clearIrq s).cycles = s.cycles := rfl
@[simp] theorem clearIrq_nmiPending (s : State) : (clearIrq s).nmiPending = s.nmiPending := rfl
@[simp] theorem clearIrq_irqPending (s : State) : (clearIrq s).irqPending = false := rfl
@[simp] theorem clearIrq_latch (s : State) : (clearIrq s).latch = s.latch := rfl
@[simp] theorem clearIrq_ram (s : State) : (clearIrq s).ram = s.ram := rfl
@[simp] theorem clearIrq_fault (s : State) : (clearIrq s).fault = s.fault := rfl
@[simp] theorem clearIrq_irqSignals (s : State) : (clearIrq s).irqSignals = s.irqSignals := rfl
@[simp] theorem clearIrq_devices (s : State) : (clearIrq s).devices = s.devices := rfl
@[simp] theorem clearIrq_cfg (s : State) : (clearIrq s).cfg = s.cfg := rfl
@[simp] theorem clearIrq_freeCount (s : State) : (clearIrq s).freeCount = s.freeCount := rfl

/-! ### `setP` -/

@[simp] theorem setP_a (p : Byte) (s : State) : (setP p s).a = s.a := rfl
@[simp] theorem setP_x (p : Byte) (s : State) : (setP p s).x = s.x := rfl
@[simp] theorem setP_y (p : Byte) (s : State) : (setP p s).y = s.y := rfl
@[simp] theorem setP_sp (p : Byte) (s : State) : (setP p s).sp = s.sp := rfl
@[simp] theorem setP_pc (p : Byte) (s : State) : (setP p s).pc = s.pc := rfl
@[simp] theorem setP_n (p : Byte) (s : State) : (setP p s).n = p.getLsbD 7 := rfl
@[simp] theorem setP_v (p : Byte) (s : State) : (setP p s).v = p.getLsbD 6 := rfl
@[simp] theorem setP_d (p : Byte) (s : State) : (setP p s).d = p.getLsbD 3 := rfl
@[simp] theorem setP_i (p : Byte) (s : State) : (setP p s).i = p.getLsbD 2 := rfl
@[simp] theorem setP_z (p : Byte) (s : State) : (setP p s).z = p.getLsbD 1 := rfl
@[simp] theorem setP_c (p : Byte) (s : State) : (setP p s).c = p.getLsbD 0 := rfl
@[simp] theorem setP_cycles (p : Byte) (s : State) : (setP p s).cycles = s.cycles := rfl
@[simp] theorem setP_nmiPending (p : Byte) (s : State) : (setP p s).nmiPending = s.nmiPending := rfl
@[simp] theorem setP_irqPending (p : Byte) (s : State) : (setP p s).irqPending = s.irqPending := rfl
@[simp] theorem setP_latch (p : Byte) (s : State) : (setP p s).latch = s.latch := rfl
@[simp] theorem setP_ram (p : Byte) (s : State) : (setP p s).ram = s.ram := rfl
@[simp] theorem setP_fault (p : Byte) (s : State) : (setP p s).fault = s.fault := rfl
@[simp] theorem setP_irqSignals (p : Byte) (s : State) : (setP p s).irqSignals = s.irqSignals := rfl
@[simp] theorem setP_devices (p : Byte) (s : State) : (setP p s).devices = s.devices := rfl
@[simp] theorem setP_cfg (p : Byte) (s : State) : (setP p s).cfg = s.cfg := rfl
@[simp] theorem setP_freeCount (p : Byte) (s : State) : (setP p s).freeCount = s.freeCount := rfl

/-! ### `setNZ` -/

@[simp] theorem setNZ_a (r : Byte) (s : State) : (setNZ r s).a = s.a := rfl
@[simp] theorem setNZ_x (r : Byte) (s : State) : (setNZ r s).x = s.x := rfl
@[simp] theorem setNZ_y (r : Byte) (s : State) : (setNZ r s).y = s.y := rfl
@[simp] theorem setNZ_sp (r : Byte) (s : State) : (setNZ r s).sp = s.sp := rfl
@[simp] theorem setNZ_pc (r : Byte) (s : State) : (setNZ r s).pc = s.pc := rfl
@[simp] theorem setNZ_n (r : Byte) (s : State) : (setNZ r s).n = r.getLsbD 7 := rfl
@[simp] theorem setNZ_v (r : Byte) (s : State) : (setNZ r s).v = s.v := rfl
@[simp] theorem setNZ_d (r : Byte) (s : State) : (setNZ r s).d = s.d := rfl
@[simp] theorem setNZ_i (r : Byte) (s : State) : (setNZ r s).i = s.i := rfl
@[simp] theorem setNZ_z (r : Byte) (s : State) : (setNZ r s).z = (r == 0) := rfl
@[simp] theorem setNZ_c (r : Byte) (s : State) : (setNZ r s).c = s.c := rfl
@[simp] theorem setNZ_cycles (r : Byte) (s : State) : (setNZ r s).cycles = s.cycles := rfl
@[simp] theorem setNZ_nmiPending (r : Byte) (s : State) : (setNZ r s).nmiPending = s.nmiPending := rfl
@[simp] theorem setNZ_irqPending (r : Byte) (s : State) : (setNZ r s).irqPending = s.irqPending := rfl
@[simp] theorem setNZ_latch (r : Byte) (s : State) : (setNZ r s).latch = s.latch := rfl
@[simp] theorem setNZ_ram (r : Byte) (s : State) : (setNZ r s).ram = s.ram := rfl
@[simp] theorem setNZ_fault (r : Byte) (s : State) : (setNZ r s).fault = s.fault := rfl
@[simp] theorem setNZ_irqSignals (r : Byte) (s : State) : (setNZ r s).irqSignals = s.irqSignals := rfl
@[simp] theorem setNZ_devices (r : Byte) (s : State) : (setNZ r s).devices = s.devices := rfl
@[simp] theorem setNZ_cfg (r : Byte) (s : State) : (setNZ r s).cfg = s.cfg := rfl
@[simp] theorem setNZ_freeCount (r : Byte) (s : State) : (setNZ r s).freeCount = s.freeCount := rfl

/-! ### `compareWith` -/

@[simp] theorem compareWith_a (reg m : Byte) (s : State) : (compareWith reg m s).a = s.a := rfl
@[simp] theorem compareWith_x (reg m : Byte) (s : State) : (compareWith reg m s).x = s.x := rfl
@[simp] theorem compareWith_y (reg m : Byte) (s : State) : (compareWith reg m s).y = s.y := rfl
@[simp] theorem compareWith_sp (reg m : Byte) (s : State) : (compareWith reg m s).sp = s.sp := rfl
@[simp] theorem compareWith_pc (reg m : Byte) (s : State) : (compareWith reg m s).pc = s.pc := rfl
@[simp] theorem compareWith_n (reg m : Byte) (s : State) : (compareWith reg m s).n = (reg - m).getLsbD 7 := rfl
@[simp] theorem compareWith_v (reg m : Byte) (s : State) : (compareWith reg m s).v = s.v := rfl
@[simp] theorem compareWith_d (reg m : Byte) (s : State) : (compareWith reg m s).d = s.d := rfl
@[simp] theorem compareWith_i (reg m : Byte) (s : State) : (compareWith reg m s).i = s.i := rfl
@[simp] theorem compareWith_z (reg m : Byte) (s : State) : (compareWith reg m s).z = (reg == m) := rfl
@[simp] theorem compareWith_c (reg m : Byte) (s : State) : (compareWith reg m s).c = decide (m.toNat ≤ reg.toNat) := rfl
@[simp] theorem compareWith_cycles (reg m : Byte) (s : State) : (compareWith reg m s).cycles = s.cycles := rfl
@[simp] theorem compareWith_nmiPending (reg m : Byte) (s : State) : (compareWith reg m s).nmiPending = s.nmiPending := rfl
@[simp] theorem compareWith_irqPending (reg m : Byte) (s : State) : (compareWith reg m s).irqPending = s.irqPending := rfl
@[simp] theorem compareWith_latch (reg m : Byte) (s : State) : (compareWith reg m s).latch = s.latch := rfl
@[simp] theorem compareWith_ram (reg m : Byte) (s : State) : (compareWith reg m s).ram = s.ram := rfl
@[simp] theorem compareWith_fault (reg m : Byte) (s : State) : (compareWith reg m s).fault = s.fault := rfl
@[simp] theorem compareWith_irqSignals (reg m : Byte) (s : State) : (compareWith reg m s).irqSignals = s.irqSignals := rfl
@[simp] theorem compareWith_devices (reg m : Byte) (s : State) : (compareWith reg m s).devices = s.devices := rfl
@[simp] theorem compareWith_cfg (reg m : Byte) (s : State) : (compareWith reg m s).cfg = s.cfg := rfl
@[simp] theorem compareWith_freeCount (reg m : Byte) (s : State) : (compareWith reg m s).freeCount = s.freeCount := rfl

/-! ### `setAlu` -/

@[simp] theorem setAlu_a (out : AluOut) (s : State) : (setAlu out s).a = out.acc := rfl
@[simp] theorem setAlu_x (out : AluOut) (s : State) : (setAlu out s).x = s.x := rfl
@[simp] theorem setAlu_y (out : AluOut) (s : State) : (setAlu out s).y = s.y := rfl
@[simp] theorem setAlu_sp (out : AluOut) (s : State) : (setAlu out s).sp = s.sp := rfl
@[simp] theorem setAlu_pc (out : AluOut) (s : State) : (setAlu out s).pc = s.pc := rfl
@[simp] theorem setAlu_n (out : AluOut) (s : State) : (setAlu out s).n = out.n := rfl
@[simp] theorem setAlu_v (out : AluOut) (s : State) : (setAlu out s).v = out.v := rfl
@[simp] theorem setAlu_d (out : AluOut) (s : State) : (setAlu out s).d = s.d := rfl
@[simp] theorem setAlu_i (out : AluOut) (s : State) : (setAlu out s).i = s.i := rfl
@[simp] theorem setAlu_z (out : AluOut) (s : State) : (setAlu out s).z = out.z := rfl
@[simp] theorem setAlu_c (out : AluOut) (s : State) : (setAlu out s).c = out.c := rfl
@[simp] theorem setAlu_cycles (out : AluOut) (s : State) : (setAlu out s).cycles = s.cycles := rfl
@[simp] theorem setAlu_nmiPending (out : AluOut) (s : State) : (setAlu out s).nmiPending = s.nmiPending := rfl
@[simp] theorem setAlu_irqPending (out : AluOut) (s : State) : (setAlu out s).irqPending = s.irqPending := rfl
@[simp] theorem setAlu_latch (out : AluOut) (s : State) : (setAlu out s).latch = s.latch := rfl
@[simp] theorem setAlu_ram (out : AluOut) (s : State) : (setAlu out s).ram = s.ram := rfl
@[simp] theorem setAlu_fault (out : AluOut) (s : State) : (setAlu out s).fault = s.fault := rfl
@[simp] theorem setAlu_irqSignals (out : AluOut) (s : State) : (setAlu out s).irqSignals = s.irqSignals := rfl
@[simp] theorem setAlu_devices (out : AluOut) (s : State) : (setAlu out s).devices = s.devices := rfl
@[simp] theorem setAlu_cfg (out : AluOut) (s : State) : (setAlu out s).cfg = s.cfg := rfl
@[simp] theorem setAlu_freeCount (out : AluOut) (s : State) : (setAlu out s).freeCount = s.freeCount := rfl

/-! ### `afterRead` -/

@[simp] theorem afterRead_a (k : Addr) (s : State) : (afterRead k s).a = s.a := rfl
@[simp] theorem afterRead_x (k : Addr) (s : State) : (afterRead k s).x = s.x := rfl
@[simp] theorem afterRead_y (k : Addr) (s : State) : (afterRead k s).y = s.y := rfl
@[simp] theorem afterRead_sp (k : Addr) (s : State) : (afterRead k s).sp = s.sp := rfl
@[simp] theorem afterRead_pc (k : Addr) (s : State) : (afterRead k s).pc = s.pc := rfl
@[simp] theorem afterRead_n (k : Addr) (s : State) : (afterRead k s).n = s.n := rfl
@[simp] theorem afterRead_v (k : Addr) (s : State) : (afterRead k s).v = s.v := rfl
@[simp] theorem afterRead_d (k : Addr) (s : State) : (afterRead k s).d = s.d := rfl
@[simp] theorem afterRead_i (k : Addr) (s : State) : (afterRead k s).i = s.i := rfl
@[simp] theorem afterRead_z (k : Addr) (s : State) : (afterRead k s).z = s.z := rfl
@[simp] theorem afterRead_c (k : Addr) (s : State) : (afterRead k s).c = s.c := rfl
@[simp] theorem afterRead_cycles (k : Addr) (s : State) : (afterRead k s).cycles = s.cycles := rfl
@[simp] theorem afterRead_nmiPending (k : Addr) (s : State) : (afterRead k s).nmiPending = s.nmiPending := rfl
@[simp] theorem afterRead_irqPending (k : Addr) (s : State) : (afterRead k s).irqPending = s.irqPending := rfl
@[simp] theorem afterRead_latch (k : Addr) (s : State) : (afterRead k s).latch = s.latch := rfl
@[simp] theorem afterRead_ram (k : Addr) (s : State) : (afterRead k s).ram = s.ram := rfl
@[simp] theorem afterRead_fault (k : Addr) (s : State) : (afterRead k s).fault = s.fault := rfl
@[simp] theorem afterRead_irqSignals (k : Addr) (s : State) : (afterRead k s).irqSignals = s.irqSignals := rfl
@[simp] theorem afterRead_devices (k : Addr) (s : State) : (afterRead k s).devices = devicesAfterRead k s := rfl
@[simp] theorem afterRead_cfg (k : Addr) (s : State) : (afterRead k s).cfg = s.cfg := rfl
@[simp] theorem afterRead_freeCount (k : Addr) (s : State) : (afterRead k s).freeCount = s.freeCount := rfl

/-! ### `busWrite` -/

@[simp] theorem busWrite_a (k : Addr) (b : Byte) (s : State) : (busWrite k b s).a = s.a := rfl
@[simp] theorem busWrite_x (k : Addr) (b : Byte) (s : State) : (busWrite k b s).x = s.x := rfl
@[simp] theorem busWrite_y (k : Addr) (b : Byte) (s : State) : (busWrite k b s).y = s.y := rfl
@[simp] theorem busWrite_sp (k : Addr) (b : Byte) (s : State) : (busWrite k b s).sp = s.sp := rfl
@[simp] theorem busWrite_pc (k : Addr) (b : Byte) (s : State) : (busWrite k b s).pc = s.pc := rfl
@[simp] theorem busWrite_n (k : Addr) (b : Byte) (s : State) : (busWrite k b s).n = s.n := rfl
@[simp] theorem busWrite_v (k : Addr) (b : Byte) (s : State) : (busWrite k b s).v = s.v := rfl
@[simp] theorem busWrite_d (k : Addr) (b : Byte) (s : State) : (busWrite k b s).d = s.d := rfl
@[simp] theorem busWrite_i (k : Addr) (b : Byte) (s : State) : (busWrite k b s).i = s.i := rfl
@[simp] theorem busWrite_z (k : Addr) (b : Byte) (s : State) : (busWrite k b s).z = s.z := rfl
@[simp] theorem busWrite_c (k : Addr) (b : Byte) (s : State) : (busWrite k b s).c = s.c := rfl
@[simp] theorem busWrite_cycles (k : Addr) (b : Byte) (s : State) : (busWrite k b s).cycles = s.cycles := rfl
@[simp] theorem busWrite_nmiPending (k : Addr) (b : Byte) (s : State) : (busWrite k b s).nmiPending = s.nmiPending := rfl
@[simp] theorem busWrite_irqPending (k : Addr) (b : Byte) (s : State) : (busWrite k b s).irqPending = s.irqPending := rfl
@[simp] theorem busWrite_latch (k : Addr) (b : Byte) (s : State) : (busWrite k b s).latch = latchAfterWrite k b s := rfl
@[simp] theorem busWrite_ram (k : Addr) (b : Byte) (s : State) : (busWrite k b s).ram = ramAfterWrite k b s := rfl
@[simp] theorem busWrite_fault (k : Addr) (b : Byte) (s : State) : (busWrite k b s).fault = s.fault := rfl
@[simp] theorem busWrite_irqSignals (k : Addr) (b : Byte) (s : State) : (busWrite k b s).irqSignals = s.irqSignals := rfl
@[simp] theorem busWrite_devices (k : Addr) (b : Byte) (s : State) : (busWrite k b s).devices = devicesAfterWrite k b s := rfl
@[simp] theorem busWrite_cfg (k : Addr) (b : Byte) (s : State) : (busWrite k b s).cfg = s.cfg := rfl
@[simp] theorem busWrite_freeCount (k : Addr) (b : Byte) (s : State) : (busWrite k b s).freeCount = s.freeCount := rfl

/-! ### `afterReadWord` -/

@[simp] theorem afterReadWord_a (k : Addr) (s : State) : (afterReadWord k s).a = s.a := rfl
@[simp] theorem afterReadWord_x (k : Addr) (s : State) : (afterReadWord k s).x = s.x := rfl
@[simp] theorem afterReadWord_y (k : Addr) (s : State) : (afterReadWord k s).y = s.y := rfl
@[simp] theorem afterReadWord_sp (k : Addr) (s : State) : (afterReadWord k s).sp = s.sp := rfl
@[simp] theorem afterReadWord_pc (k : Addr) (s : State) : (afterReadWord k s).pc = s.pc := rfl
@[simp] theorem afterReadWord_n (k : Addr) (s : State) : (afterReadWord k s).n = s.n := rfl
@[simp] theorem afterReadWord_v (k : Addr) (s : State) : (afterReadWord k s).v = s.v := rfl
@[simp] theorem afterReadWord_d (k : Addr) (s : State) : (afterReadWord k s).d = s.d := rfl
@[simp] theorem afterReadWord_i (k : Addr) (s : State) : (afterReadWord k s).i = s.i := rfl
@[simp] theorem afterReadWord_z (k : Addr) (s : State) : (afterReadWord k s).z = s.z := rfl
@[simp] theorem afterReadWord_c (k : Addr) (s : State) : (afterReadWord k s).c = s.c := rfl
@[simp] theorem afterReadWord_cycles (k : Addr) (s : State) : (afterReadWord k s).cycles = s.cycles := rfl
@[simp] theorem afterReadWord_nmiPending (k : Addr) (s : State) : (afterReadWord k s).nmiPending = s.nmiPending := rfl
@[simp] theorem afterReadWord_irqPending (k : Addr) (s : State) : (afterReadWord k s).irqPending = s.irqPending := rfl
@[simp] theorem afterReadWord_latch (k : Addr) (s : State) : (afterReadWord k s).latch = s.latch := rfl
@[simp] theorem afterReadWord_ram (k : Addr) (s : State) : (afterReadWord k s).ram = s.ram := rfl
@[simp] theorem afterReadWord_fault (k : Addr) (s : State) : (afterReadWord k s).fault = s.fault := rfl
@[simp] theorem afterReadWord_irqSignals (k : Addr) (s : State) : (afterReadWord k s).irqSignals = s.irqSignals := rfl
@[simp] theorem afterReadWord_devices (k : Addr) (s : State) : (afterReadWord k s).devices = devicesAfterRead (k + 1) (afterRead k s) := rfl
@[simp] theorem afterReadWord_cfg (k : Addr) (s : State) : (afterReadWord k s).cfg = s.cfg := rfl
@[simp] theorem afterReadWord_freeCount (k : Addr) (s : State) : (afterReadWord k s).freeCount = s.freeCount := rfl

/-! ### `push` -/

@[simp] theorem push_a (b : Byte) (s : State) : (push b s).a = s.a := rfl
@[simp] theorem push_x (b : Byte) (s : State) : (push b s).x = s.x := rfl
@[simp] theorem push_y (b : Byte) (s : State) : (push b s).y = s.y := rfl
@[simp] theorem push_sp (b : Byte) (s : State) : (push b s).sp = s.sp - 1 := rfl
@[simp] theorem push_pc (b : Byte) (s : State) : (push b s).pc = s.pc := rfl
@[simp] theorem push_n (b : Byte) (s : State) : (push b s).n = s.n := rfl
@[simp] theorem push_v (b : Byte) (s : State) : (push b s).v = s.v := rfl
@[simp] theorem push_d (b : Byte) (s : State) : (push b s).d = s.d := rfl
@[simp] theorem push_i (b : Byte) (s : State) : (push b s).i = s.i := rfl
@[simp] theorem push_z (b : Byte) (s : State) : (push b s).z = s.z := rfl
@[simp] theorem push_c (b : Byte) (s : State) : (push b s).c = s.c := rfl
@[simp] theorem push_cycles (b : Byte) (s : State) : (push b s).cycles = s.cycles := rfl
@[simp] theorem push_nmiPending (b : Byte) (s : State) : (push b s).nmiPending = s.nmiPending := rfl
@[simp] theorem push_irqPending (b : Byte) (s : State) : (push b s).irqPending = s.irqPending := rfl
@[simp] theorem push_latch (b : Byte) (s : State) : (push b s).latch = latchAfterWrite (stackAddr s.sp) b s := rfl
@[simp] theorem push_ram (b : Byte) (s : State) : (push b s).ram = ramAfterWrite (stackAddr s.sp) b s := rfl
@[simp] theorem push_fault (b : Byte) (s : State) : (push b s).fault = s.fault := rfl
@[simp] theorem push_irqSignals (b : Byte) (s : State) : (push b s).irqSignals = s.irqSignals := rfl
@[simp] theorem push_devices (b : Byte) (s : State) : (push b s).devices = devicesAfterWrite (stackAddr s.sp) b s := rfl
@[simp] theorem push_cfg (b : Byte) (s : State) : (push b s).cfg = s.cfg := rfl
@[simp] theorem push_freeCount (b : Byte) (s : State) : (push b s).freeCount = s.freeCount := rfl

/-! ### `afterPull` -/

@[simp] theorem afterPull_a (s : State) : (afterPull s).a = s.a := rfl
@[simp] theorem afterPull_x (s : State) : (afterPull s).x = s.x := rfl
@[simp] theorem afterPull_y (s : State) : (afterPull s).y = s.y := rfl
@[simp] theorem afterPull_sp (s : State) : (afterPull s).sp = s.sp + 1 := rfl
@[simp] theorem afterPull_pc (s : State) : (afterPull s).pc = s.pc := rfl
@[simp] theorem afterPull_n (s : State) : (afterPull s).n = s.n := rfl
@[simp] theorem afterPull_v (s : State) : (afterPull s).v = s.v := rfl
@[simp] theorem afterPull_d (s : State) : (afterPull s).d = s.d := rfl
@[simp] theorem afterPull_i (s : State) : (afterPull s).i = s.i := rfl
@[simp] theorem afterPull_z (s : State) : (afterPull s).z = s.z := rfl
@[simp] theorem afterPull_c (s : State) : (afterPull s).c = s.c := rfl
@[simp] theorem afterPull_cycles (s : State) : (afterPull s).cycles = s.cycles := rfl
@[simp] theorem afterPull_nmiPending (s : State) : (afterPull s).nmiPending = s.nmiPending := rfl
@[simp] theorem afterPull_irqPending (s : State) : (afterPull s).irqPending = s.irqPending := rfl
@[simp] theorem afterPull_latch (s : State) : (afterPull s).latch = s.latch := rfl
@[simp] theorem afterPull_ram (s : State) : (afterPull s).ram = s.ram := rfl
@[simp] theorem afterPull_fault (s : State) : (afterPull s).fault = s.fault := rfl
@[simp] theorem afterPull_irqSignals (s : State) : (afterPull s).irqSignals = s.irqSignals := rfl
@[simp] theorem afterPull_devices (s : State) : (afterPull s).devices = devicesAfterRead (stackAddr (s.sp + 1)) s := rfl
@[simp] theorem afterPull_cfg (s : State) : (afterPull s).cfg = s.cfg := rfl
@[simp] theorem afterPull_freeCount (s : State) : (afterPull s).freeCount = s.freeCount := rfl

/-! ### `advance` -/

@[simp] theorem advance_a (len k : Nat) (s : State) : (advance len k s).a = s.a := rfl
@[simp] theorem advance_x (len k : Nat) (s : State) : (advance len k s).x = s.x := rfl
@[simp] theorem advance_y (len k : Nat) (s : State) : (advance len k s).y = s.y := rfl
@[simp] theorem advance_sp (len k : Nat) (s : State) : (advance len k s).sp = s.sp := rfl
@[simp] theorem advance_pc (len k : Nat) (s : State) : (advance len k s).pc = s.pc + BitVec.ofNat 16 len := rfl
@[simp] theorem advance_n (len k : Nat) (s : State) : (advance len k s).n = s.n := rfl
@[simp] theorem advance_v (len k : Nat) (s : State) : (advance len k s).v = s.v := rfl
@[simp] theorem advance_d (len k : Nat) (s : State) : (advance len k s).d = s.d := rfl
@[simp] theorem advance_i (len k : Nat) (s : State) : (advance len k s).i = s.i := rfl
@[simp] theorem advance_z (len k : Nat) (s : State) : (advance len k s).z = s.z := rfl
@[simp] theorem advance_c (len k : Nat) (s : State) : (advance len k s).c = s.c := rfl
@[simp] theorem advance_cycles (len k : Nat) (s : State) : (advance len k s).cycles = s.cycles + k := rfl
@[simp] theorem advance_nmiPending (len k : Nat) (s : State) : (advance len k s).nmiPending = s.nmiPending := rfl
@[simp] theorem advance_irqPending (len k : Nat) (s : State) : (advance len k s).irqPending = s.irqPending := rfl
@[simp] theorem advance_latch (len k : Nat) (s : State) : (advance len k s).latch = s.latch := rfl
@[simp] theorem advance_ram (len k : Nat) (s : State) : (advance len k s).ram = s.ram := rfl
@[simp] theorem advance_fault (len k : Nat) (s : State) : (advance len k s).fault = s.fault := rfl
@[simp] theorem advance_irqSignals (len k : Nat) (s : State) : (advance len k s).irqSignals = s.irqSignals := rfl
@[simp] theorem advance_devices (len k : Nat) (s : State) : (advance len k s).devices = s.devices := rfl
@[simp] theorem advance_cfg (len k : Nat) (s : State) : (advance len k s).cfg = s.cfg := rfl
@[simp] theorem advance_freeCount (len k : Nat) (s : State) : (advance len k s).freeCount = s.freeCount := rfl

/-! ### `jumpTo` -/

@[simp] theorem jumpTo_a (target : Addr) (k : Nat) (s : State) : (jumpTo target k s).a = s.a := rfl
@[simp] theorem jumpTo_x (target : Addr) (k : Nat) (s : State) : (jumpTo target k s).x = s.x := rfl
@[simp] theorem jumpTo_y (target : Addr) (k : Nat) (s : State) : (jumpTo target k s).y = s.y := rfl
@[simp] theorem jumpTo_sp (target : Addr) (k : Nat) (s : State) : (jumpTo target k s).sp = s.sp := rfl
@[simp] theorem jumpTo_pc (target : Addr) (k : Nat) (s : State) : (jumpTo target k s).pc = target := rfl
@[simp] theorem jumpTo_n (target : Addr) (k : Nat) (s : State) : (jumpTo target k s).n = s.n := rfl
@[simp] theorem jumpTo_v (target : Addr) (k : Nat) (s : State) : (jumpTo target k s).v = s.v := rfl
@[simp] theorem jumpTo_d (target : Addr) (k : Nat) (s : State) : (jumpTo target k s).d = s.d := rfl
@[simp] theorem jumpTo_i (target : Addr) (k : Nat) (s : State) : (jumpTo target k s).i = s.i := rfl
@[simp] theorem jumpTo_z (target : Addr) (k : Nat) (s : State) : (jumpTo target k s).z = s.z := rfl
@[simp] theorem jumpTo_c (target : Addr) (k : Nat) (s : State) : (jumpTo target k s).c = s.c := rfl
@[simp] theorem jumpTo_cycles (target : Addr) (k : Nat) (s : State) : (jumpTo target k s).cycles = s.cycles + k := rfl
@[simp] theorem jumpTo_nmiPending (target : Addr) (k : Nat) (s : State) : (jumpTo target k s).nmiPending = s.nmiPending := rfl
@[simp] theorem jumpTo_irqPending (target : Addr) (k : Nat) (s : State) : (jumpTo target k s).irqPending = s.irqPending := rfl
@[simp] theorem jumpTo_latch (target : Addr) (k : Nat) (s : State) : (jumpTo target k s).latch = s.latch := rfl
@[simp] theorem jumpTo_ram (target : Addr) (k : Nat) (s : State) : (jumpTo target k s).ram = s.ram := rfl
@[simp] theorem jumpTo_fault (target : Addr) (k : Nat) (s : State) : (jumpTo target k s).fault = s.fault := rfl
@[simp] theorem jumpTo_irqSignals (target : Addr) (k : Nat) (s : State) : (jumpTo target k s).irqSignals = s.irqSignals := rfl
@[simp] theorem jumpTo_devices (target : Addr) (k : Nat) (s : State) : (jumpTo target k s).devices = s.devices := rfl
@[simp] theorem jumpTo_cfg (target : Addr) (k : Nat) (s : State) : (jumpTo target k s).cfg = s.cfg := rfl
@[simp] theorem jumpTo_freeCount (target : Addr) (k : Nat) (s : State) : (jumpTo target k s).freeCount = s.freeCount := rfl

/-! ### `sampleIrq` -/

@[simp] theorem sampleIrq_a (s : State) : (sampleIrq s).a = s.a := rfl
@[simp] theorem sampleIrq_x (s : State) : (sampleIrq s).x = s.x := rfl
@[simp] theorem sampleIrq_y (s : State) : (sampleIrq s).y = s.y := rfl
@[simp] theorem sampleIrq_sp (s : State) : (sampleIrq s).sp = s.sp := rfl
@[simp] theorem sampleIrq_pc (s : State) : (sampleIrq s).pc = s.pc := rfl
@[simp] theorem sampleIrq_n (s : State) : (sampleIrq s).n = s.n := rfl
@[simp] theorem sampleIrq_v (s : State) : (sampleIrq s).v = s.v := rfl
@[simp] theorem sampleIrq_d (s : State) : (sampleIrq s).d = s.d := rfl
@[simp] theorem sampleIrq_i (s : State) : (sampleIrq s).i = s.i := rfl
@[simp] theorem sampleIrq_z (s : State) : (sampleIrq s).z = s.z := rfl
@[simp] theorem sampleIrq_c (s : State) : (sampleIrq s).c = s.c := rfl
@[simp] theorem sampleIrq_cycles (s : State) : (sampleIrq s).cycles = s.cycles := rfl
@[simp] theorem sampleIrq_nmiPending (s : State) : (sampleIrq s).nmiPending = s.nmiPending := rfl
@[simp] theorem sampleIrq_irqPending (s : State) : (sampleIrq s).irqPending = irqLevel s := rfl
@[simp] theorem sampleIrq_latch (s : State) : (sampleIrq s).latch = s.latch := rfl
@[simp] theorem sampleIrq_ram (s : State) : (sampleIrq s).ram = s.ram := rfl
@[simp] theorem sampleIrq_fault (s : State) : (sampleIrq s).fault = s.fault := rfl
@[simp] theorem sampleIrq_irqSignals (s : State) : (sampleIrq s).irqSignals = s.irqSignals := rfl
@[simp] theorem sampleIrq_devices (s : State) : (sampleIrq s).devices = s.devices := rfl
@[simp] theorem sampleIrq_cfg (s : State) : (sampleIrq s).cfg = s.cfg := rfl
@[simp] theorem sampleIrq_freeCount (s : State) : (sampleIrq s).freeCount = s.freeCount := rfl

/-! ### `loadA` -/

@[simp] theorem loadA_a (b : Byte) (s : State) : (loadA b s).a = b := rfl
@[simp] theorem loadA_x (b : Byte) (s : State) : (loadA b s).x = s.x := rfl
@[simp] theorem loadA_y (b : Byte) (s : State) : (loadA b s).y = s.y := rfl
@[simp] theorem loadA_sp (b : Byte) (s : State) : (loadA b s).sp = s.sp := rfl
@[simp] theorem loadA_pc (b : Byte) (s : State) : (loadA b s).pc = s.pc := rfl
@[simp] theorem loadA_n (b : Byte) (s : State) : (loadA b s).n = b.getLsbD 7 := rfl
@[simp] theorem loadA_v (b : Byte) (s : State) : (loadA b s).v = s.v := rfl
@[simp] theorem loadA_d (b : Byte) (s : State) : (loadA b s).d = s.d := rfl
@[simp] theorem loadA_i (b : Byte) (s : State) : (loadA b s).i = s.i := rfl
@[simp] theorem loadA_z (b : Byte) (s : State) : (loadA b s).z = (b == 0) := rfl
@[simp] theorem loadA_c (b : Byte) (s : State) : (loadA b s).c = s.c := rfl
@[simp] theorem loadA_cycles (b : Byte) (s : State) : (loadA b s).cycles = s.cycles := rfl
@[simp] theorem loadA_nmiPending (b : Byte) (s : State) : (loadA b s).nmiPending = s.nmiPending := rfl
@[simp] theorem loadA_irqPending (b : Byte) (s : State) : (loadA b s).irqPending = s.irqPending := rfl
@[simp] theorem loadA_latch (b : Byte) (s : State) : (loadA b s).latch = s.latch := rfl
@[simp] theorem loadA_ram (b : Byte) (s : State) : (loadA b s).ram = s.ram := rfl
@[simp] theorem loadA_fault (b : Byte) (s : State) : (loadA b s).fault = s.fault := rfl
@[simp] theorem loadA_irqSignals (b : Byte) (s : State) : (loadA b s).irqSignals = s.irqSignals := rfl
@[simp] theorem loadA_devices (b : Byte) (s : State) : (loadA b s).devices = s.devices := rfl
@[simp] theorem loadA_cfg (b : Byte) (s : State) : (loadA b s).cfg = s.cfg := rfl
@[simp] theorem loadA_freeCount (b : Byte) (s : State) : (loadA b s).freeCount = s.freeCount := rfl

/-! ### `loadX` -/

@[simp] theorem loadX_a (b : Byte) (s : State) : (loadX b s).a = s.a := rfl
@[simp] theorem loadX_x (b : Byte) (s : State) : (loadX b s).x = b := rfl
@[simp] theorem loadX_y (b : Byte) (s : State) : (loadX b s).y = s.y := rfl
@[simp] theorem loadX_sp (b : Byte) (s : State) : (loadX b s).sp = s.sp := rfl
@[simp] theorem loadX_pc (b : Byte) (s : State) : (loadX b s).pc = s.pc := rfl
@[simp] theorem loadX_n (b : Byte) (s : State) : (loadX b s).n = b.getLsbD 7 := rfl
@[simp] theorem loadX_v (b : Byte) (s : State) : (loadX b s).v = s.v := rfl
@[simp] theorem loadX_d (b : Byte) (s : State) : (loadX b s).d = s.d := rfl
@[simp] theorem loadX_i (b : Byte) (s : State) : (loadX b s).i = s.i := rfl
@[simp] theorem loadX_z (b : Byte) (s : State) : (loadX b s).z = (b == 0) := rfl
@[simp] theorem loadX_c (b : Byte) (s : State) : (loadX b s).c = s.c := rfl
@[simp] theorem loadX_cycles (b : Byte) (s : State) : (loadX b s).cycles = s.cycles := rfl
@[simp] theorem loadX_nmiPending (b : Byte) (s : State) : (loadX b s).nmiPending = s.nmiPending := rfl
@[simp] theorem loadX_irqPending (b : Byte) (s : State) : (loadX b s).irqPending = s.irqPending := rfl
@[simp] theorem loadX_latch (b : Byte) (s : State) : (loadX b s).latch = s.latch := rfl
@[simp] theorem loadX_ram (b : Byte) (s : State) : (loadX b s).ram = s.ram := rfl
@[simp] theorem loadX_fault (b : Byte) (s : State) : (loadX b s).fault = s.fault := rfl
@[simp] theorem loadX_irqSignals (b : Byte) (s : State) : (loadX b s).irqSignals = s.irqSignals := rfl
@[simp] theorem loadX_devices (b : Byte) (s : State) : (loadX b s).devices = s.devices := rfl
@[simp] theorem loadX_cfg (b : Byte) (s : State) : (loadX b s).cfg = s.cfg := rfl
@[simp] theorem loadX_freeCount (b : Byte) (s : State) : (loadX b s).freeCount = s.freeCount := rfl

/-! ### `loadY` -/

@[simp] theorem loadY_a (b : Byte) (s : State) : (loadY b s).a = s.a := rfl
@[simp] theorem loadY_x (b : Byte) (s : State) : (loadY b s).x = s.x := rfl
@[simp] theorem loadY_y (b : Byte) (s : State) : (loadY b s).y = b := rfl
@[simp] theorem loadY_sp (b : Byte) (s : State) : (loadY b s).sp = s.sp := rfl
@[simp] theorem loadY_pc (b : Byte) (s : State) : (loadY b s).pc = s.pc := rfl
@[simp] theorem loadY_n (b : Byte) (s : State) : (loadY b s).n = b.getLsbD 7 := rfl
@[simp] theorem loadY_v (b : Byte) (s : State) : (loadY b s).v = s.v := rfl
@[simp] theorem loadY_d (b : Byte) (s : State) : (loadY b s).d = s.d := rfl
@[simp] theorem loadY_i (b : Byte) (s : State) : (loadY b s).i = s.i := rfl
@[simp] theorem loadY_z (b : Byte) (s : State) : (loadY b s).z = (b == 0) := rfl
@[simp] theorem loadY_c (b : Byte) (s : State) : (loadY b s).c = s.c := rfl
@[simp] theorem loadY_cycles (b : Byte) (s : State) : (loadY b s).cycles = s.cycles := rfl
@[simp] theorem loadY_nmiPending (b : Byte) (s : State) : (loadY b s).nmiPending = s.nmiPending := rfl
@[simp] theorem loadY_irqPending (b : Byte) (s : State) : (loadY b s).irqPending = s.irqPending := rfl
@[simp] theorem loadY_latch (b : Byte) (s : State) : (loadY b s).latch = s.latch := rfl
@[simp] theorem loadY_ram (b : Byte) (s : State) : (loadY b s).ram = s.ram := rfl
@[simp] theorem loadY_fault (b : Byte) (s : State) : (loadY b s).fault = s.fault := rfl
@[simp] theorem loadY_irqSignals (b : Byte) (s : State) : (loadY b s).irqSignals = s.irqSignals := rfl
@[simp] theorem loadY_devices (b : Byte) (s : State) : (loadY b s).devices = s.devices := rfl
@[simp] theorem loadY_cfg (b : Byte) (s : State) : (loadY b s).cfg = s.cfg := rfl
@[simp] theorem loadY_freeCount (b : Byte) (s : State) : (loadY b s).freeCount = s.freeCount := rfl

/-! ### `loadAX` -/

@[simp] theorem loadAX_a (b : Byte) (s : State) : (loadAX b s).a = b := rfl
@[simp] theorem loadAX_x (b : Byte) (s : State) : (loadAX b s).x = b := rfl
@[simp] theorem loadAX_y (b : Byte) (s : State) : (loadAX b s).y = s.y := rfl
@[simp] theorem loadAX_sp (b : Byte) (s : State) : (loadAX b s).sp = s.sp := rfl
@[simp] theorem loadAX_pc (b : Byte) (s : State) : (loadAX b s).pc = s.pc := rfl
@[simp] theorem loadAX_n (b : Byte) (s : State) : (loadAX b s).n = b.getLsbD 7 := rfl
@[simp] theorem loadAX_v (b : Byte) (s : State) : (loadAX b s).v = s.v := rfl
@[simp] theorem loadAX_d (b : Byte) (s : State) : (loadAX b s).d = s.d := rfl
@[simp] theorem loadAX_i (b : Byte) (s : State) : (loadAX b s).i = s.i := rfl
@[simp] theorem loadAX_z (b : Byte) (s : State) : (loadAX b s).z = (b == 0) := rfl
@[simp] theorem loadAX_c (b : Byte) (s : State) : (loadAX b s).c = s.c := rfl
@[simp] theorem loadAX_cycles (b : Byte) (s : State) : (loadAX b s).cycles = s.cycles := rfl
@[simp] theorem loadAX_nmiPending (b : Byte) (s : State) : (loadAX b s).nmiPending = s.nmiPending := rfl
@[simp] theorem loadAX_irqPending (b : Byte) (s : State) : (loadAX b s).irqPending = s.irqPending := rfl
@[simp] theorem loadAX_latch (b : Byte) (s : State) : (loadAX b s).latch = s.latch := rfl
@[simp] theorem loadAX_ram (b : Byte) (s : State) : (loadAX b s).ram = s.ram := rfl
@[simp] theorem loadAX_fault (b : Byte) (s : State) : (loadAX b s).fault = s.fault := rfl
@[simp] theorem loadAX_irqSignals (b : Byte) (s : State) : (loadAX b s).irqSignals = s.irqSignals := rfl
@[simp] theorem loadAX_devices (b : Byte) (s : State) : (loadAX b s).devices = s.devices := rfl
@[simp] theorem loadAX_cfg (b : Byte) (s : State) : (loadAX b s).cfg = s.cfg := rfl
@[simp] theorem loadAX_freeCount (b : Byte) (s : State) : (loadAX b s).freeCount = s.freeCount := rfl

/-! ### `bitTest` -/

@[simp] theorem bitTest_a (m : Byte) (s : State) : (bitTest m s).a = s.a := rfl
@[simp] theorem bitTest_x (m : Byte) (s : State) : (bitTest m s).x = s.x := rfl
@[simp] theorem bitTest_y (m : Byte) (s : State) : (bitTest m s).y = s.y := rfl
@[simp] theorem bitTest_sp (m : Byte) (s : State) : (bitTest m s).sp = s.sp := rfl
@[simp] theorem bitTest_pc (m : Byte) (s : State) : (bitTest m s).pc = s.pc := rfl
@[simp] theorem bitTest_n (m : Byte) (s : State) : (bitTest m s).n = m.getLsbD 7 := rfl
@[simp] theorem bitTest_v (m : Byte) (s : State) : (bitTest m s).v = m.getLsbD 6 := rfl
@[simp] theorem bitTest_d (m : Byte) (s : State) : (bitTest m s).d = s.d := rfl
@[simp] theorem bitTest_i (m : Byte) (s : State) : (bitTest m s).i = s.i := rfl
@[simp] theorem bitTest_z (m : Byte) (s : State) : (bitTest m s).z = (s.a &&& m == 0) := rfl
@[simp] theorem bitTest_c (m : Byte) (s : State) : (bitTest m s).c = s.c := rfl
@[simp] theorem bitTest_cycles (m : Byte) (s : State) : (bitTest m s).cycles = s.cycles := rfl
@[simp] theorem bitTest_nmiPending (m : Byte) (s : State) : (bitTest m s).nmiPending = s.nmiPending := rfl
@[simp] theorem bitTest_irqPending (m : Byte) (s : State) : (bitTest m s).irqPending = s.irqPending := rfl
@[simp] theorem bitTest_latch (m : Byte) (s : State) : (bitTest m s).latch = s.latch := rfl
@[simp] theorem bitTest_ram (m : Byte) (s : State) : (bitTest m s).ram = s.ram := rfl
@[simp] theorem bitTest_fault (m : Byte) (s : State) : (bitTest m s).fault = s.fault := rfl
@[simp] theorem bitTest_irqSignals (m : Byte) (s : State) : (bitTest m s).irqSignals = s.irqSignals := rfl
@[simp] theorem bitTest_devices (m : Byte) (s : State) : (bitTest m s).devices = s.devices := rfl
@[simp] theorem bitTest_cfg (m : Byte) (s : State) : (bitTest m s).cfg = s.cfg := rfl
@[simp] theorem bitTest_freeCount (m : Byte) (s : State) : (bitTest m s).freeCount = s.freeCount := rfl

/-! ### `setSpFromX` -/

@[simp] theorem setSpFromX_a (s : State) : (setSpFromX s).a = s.a := rfl
@[simp] theorem setSpFromX_x (s : State) : (setSpFromX s).x = s.x := rfl
@[simp] theorem setSpFromX_y (s : State) : (setSpFromX s).y = s.y := rfl
@[simp] theorem setSpFromX_sp (s : State) : (setSpFromX s).sp = s.x := rfl
@[simp] theorem setSpFromX_pc (s : State) : (setSpFromX s).pc = s.pc := rfl
@[simp] theorem setSpFromX_n (s : State) : (setSpFromX s).n = s.n := rfl
@[simp] theorem setSpFromX_v (s : State) : (setSpFromX s).v = s.v := rfl
@[simp] theorem setSpFromX_d (s : State) : (setSpFromX s).d = s.d := rfl
@[simp] theorem setSpFromX_i (s : State) : (setSpFromX s).i = s.i := rfl
@[simp] theorem setSpFromX_z (s : State) : (setSpFromX s).z = s.z := rfl
@[simp] theorem setSpFromX_c (s : State) : (setSpFromX s).c = s.c := rfl
@[simp] theorem setSpFromX_cycles (s : State) : (setSpFromX s).cycles = s.cycles := rfl
@[simp] theorem setSpFromX_nmiPending (s : State) : (setSpFromX s).nmiPending = s.nmiPending := rfl
@[simp] theorem setSpFromX_irqPending (s : State) : (setSpFromX s).irqPending = s.irqPending := rfl
@[simp] theorem setSpFromX_latch (s : State) : (setSpFromX s).latch = s.latch := rfl
@[simp] theorem setSpFromX_ram (s : State) : (setSpFromX s).ram = s.ram := rfl
@[simp] theorem setSpFromX_fault (s : State) : (setSpFromX s).fault = s.fault := rfl
@[simp] theorem setSpFromX_irqSignals (s : State) : (setSpFromX s).irqSignals = s.irqSignals := rfl
@[simp] theorem setSpFromX_devices (s : State) : (setSpFromX s).devices = s.devices := rfl
@[simp] theorem setSpFromX_cfg (s : State) : (setSpFromX s).cfg = s.cfg := rfl
@[simp] theorem setSpFromX_freeCount (s : State) : (setSpFromX s).freeCount = s.freeCount := rfl

/-! ### `andA` -/

@[simp] theorem andA_a (m : Byte) (s : State) : (andA m s).a = s.a &&& m := rfl
@[simp] theorem andA_x (m : Byte) (s : State) : (andA m s).x = s.x := rfl
@[simp] theorem andA_y (m : Byte) (s : State) : (andA m s).y = s.y := rfl
@[simp] theorem andA_sp (m : Byte) (s : State) : (andA m s).sp = s.sp := rfl
@[simp] theorem andA_pc (m : Byte) (s : State) : (andA m s).pc = s.pc := rfl
@[simp] theorem andA_n (m : Byte) (s : State) : (andA m s).n = (s.a &&& m).getLsbD 7 := rfl
@[simp] theorem andA_v (m : Byte) (s : State) : (andA m s).v = s.v := rfl
@[simp] theorem andA_d (m : Byte) (s : State) : (andA m s).d = s.d := rfl
@[simp] theorem andA_i (m : Byte) (s : State) : (andA m s).i = s.i := rfl
@[simp] theorem andA_z (m : Byte) (s : State) : (andA m s).z = (s.a &&& m == 0) := rfl
@[simp] theorem andA_c (m : Byte) (s : State) : (andA m s).c = s.c := rfl
@[simp] theorem andA_cycles (m : Byte) (s : State) : (andA m s).cycles = s.cycles := rfl
@[simp] theorem andA_nmiPending (m : Byte) (s : State) : (andA m s).nmiPending = s.nmiPending := rfl
@[simp] theorem andA_irqPending (m : Byte) (s : State) : (andA m s).irqPending = s.irqPending := rfl
@[simp] theorem andA_latch (m : Byte) (s : State) : (andA m s).latch = s.latch := rfl
@[simp] theorem andA_ram (m : Byte) (s : State) : (andA m s).ram = s.ram := rfl
@[simp] theorem andA_fault (m : Byte) (s : State) : (andA m s).fault = s.fault := rfl
@[simp] theorem andA_irqSignals (m : Byte) (s : State) : (andA m s).irqSignals = s.irqSignals := rfl
@[simp] theorem andA_devices (m : Byte) (s : State) : (andA m s).devices = s.devices := rfl
@[simp] theorem andA_cfg (m : Byte) (s : State) : (andA m s).cfg = s.cfg := rfl
@[simp] theorem andA_freeCount (m : Byte) (s : State) : (andA m s).freeCount = s.freeCount := rfl

/-! ### `oraA` -/

@[simp] theorem oraA_a (m : Byte) (s : State) : (oraA m s).a = s.a ||| m := rfl
@[simp] theorem oraA_x (m : Byte) (s : State) : (oraA m s).x = s.x := rfl
@[simp] theorem oraA_y (m : Byte) (s : State) : (oraA m s).y = s.y := rfl
@[simp] theorem oraA_sp (m : Byte) (s : State) : (oraA m s).sp = s.sp := rfl
@[simp] theorem oraA_pc (m : Byte) (s : State) : (oraA m s).pc = s.pc := rfl
@[simp] theorem oraA_n (m : Byte) (s : State) : (oraA m s).n = (s.a ||| m).getLsbD 7 := rfl
@[simp] theorem oraA_v (m : Byte) (s : State) : (oraA m s).v = s.v := rfl
@[simp] theorem oraA_d (m : Byte) (s : State) : (oraA m s).d = s.d := rfl
@[simp] theorem oraA_i (m : Byte) (s : State) : (oraA m s).i = s.i := rfl
@[simp] theorem oraA_z (m : Byte) (s : State) : (oraA m s).z = (s.a ||| m == 0) := rfl
@[simp] theorem oraA_c (m : Byte) (s : State) : (oraA m s).c = s.c := rfl
@[simp] theorem oraA_cycles (m : Byte) (s : State) : (oraA m s).cycles = s.cycles := rfl
@[simp] theorem oraA_nmiPending (m : Byte) (s : State) : (oraA m s).nmiPending = s.nmiPending := rfl
@[simp] theorem oraA_irqPending (m : Byte) (s : State) : (oraA m s).irqPending = s.irqPending := rfl
@[simp] theorem oraA_latch (m : Byte) (s : State) : (oraA m s).latch = s.latch := rfl
@[simp] theorem oraA_ram (m : Byte) (s : State) : (oraA m s).ram = s.ram := rfl
@[simp] theorem oraA_fault (m : Byte) (s : State) : (oraA m s).fault = s.fault := rfl
@[simp] theorem oraA_irqSignals (m : Byte) (s : State) : (oraA m s).irqSignals = s.irqSignals := rfl
@[simp] theorem oraA_devices (m : Byte) (s : State) : (oraA m s).devices = s.devices := rfl
@[simp] theorem oraA_cfg (m : Byte) (s : State) : (oraA m s).cfg = s.cfg := rfl
@[simp] theorem oraA_freeCount (m : Byte) (s : State) : (oraA m s).freeCount = s.freeCount := rfl

/-! ### `eorA` -/

@[simp] theorem eorA_a (m : Byte) (s : State) : (eorA m s).a = s.a ^^^ m := rfl
@[simp] theorem eorA_x (m : Byte) (s : State) : (eorA m s).x = s.x := rfl
@[simp] theorem eorA_y (m : Byte) (s : State) : (eorA m s).y = s.y := rfl
@[simp] theorem eorA_sp (m : Byte) (s : State) : (eorA m s).sp = s.sp := rfl
@[simp] theorem eorA_pc (m : Byte) (s : State) : (eorA m s).pc = s.pc := rfl
@[simp] theorem eorA_n (m : Byte) (s : State) : (eorA m s).n = (s.a ^^^ m).getLsbD 7 := rfl
@[simp] theorem eorA_v (m : Byte) (s : State) : (eorA m s).v = s.v := rfl
@[simp] theorem eorA_d (m : Byte) (s : State) : (eorA m s).d = s.d := rfl
@[simp] theorem eorA_i (m : Byte) (s : State) : (eorA m s).i = s.i := rfl
@[simp] theorem eorA_z (m : Byte) (s : State) : (eorA m s).z = (s.a ^^^ m == 0) := rfl
@[simp] theorem eorA_c (m : Byte) (s : State) : (eorA m s).c = s.c := rfl
@[simp] theorem eorA_cycles (m : Byte) (s : State) : (eorA m s).cycles = s.cycles := rfl
@[simp] theorem eorA_nmiPending (m : Byte) (s : State) : (eorA m s).nmiPending = s.nmiPending := rfl
@[simp] theorem eorA_irqPending (m : Byte) (s : State) : (eorA m s).irqPending = s.irqPending := rfl
@[simp] theorem eorA_latch (m : Byte) (s : State) : (eorA m s).latch = s.latch := rfl
@[simp] theorem eorA_ram (m : Byte) (s : State) : (eorA m s).ram = s.ram := rfl
@[simp] theorem eorA_fault (m : Byte) (s : State) : (eorA m s).fault = s.fault := rfl
@[simp] theorem eorA_irqSignals (m : Byte) (s : State) : (eorA m s).irqSignals = s.irqSignals := rfl
@[simp] theorem eorA_devices (m : Byte) (s : State) : (eorA m s).devices = s.devices := rfl
@[simp] theorem eorA_cfg (m : Byte) (s : State) : (eorA m s).cfg = s.cfg := rfl
@[simp] theorem eorA_freeCount (m : Byte) (s : State) : (eorA m s).freeCount = s.freeCount := rfl

/-! ### `adcA` -/

@[simp] theorem adcA_a (m : Byte) (s : State) : (adcA m s).a = (adcOut s m).acc := rfl
@[simp] theorem adcA_x (m : Byte) (s : State) : (adcA m s).x = s.x := rfl
@[simp] theorem adcA_y (m : Byte) (s : State) : (adcA m s).y = s.y := rfl
@[simp] theorem adcA_sp (m : Byte) (s : State) : (adcA m s).sp = s.sp := rfl
@[simp] theorem adcA_pc (m : Byte) (s : State) : (adcA m s).pc = s.pc := rfl
@[simp] theorem adcA_n (m : Byte) (s : State) : (adcA m s).n = (adcOut s m).n := rfl
@[simp] theorem adcA_v (m : Byte) (s : State) : (adcA m s).v = (adcOut s m).v := rfl
@[simp] theorem adcA_d (m : Byte) (s : State) : (adcA m s).d = s.d := rfl
@[simp] theorem adcA_i (m : Byte) (s : State) : (adcA m s).i = s.i := rfl
@[simp] theorem adcA_z (m : Byte) (s : State) : (adcA m s).z = (adcOut s m).z := rfl
@[simp] theorem adcA_c (m : Byte) (s : State) : (adcA m s).c = (adcOut s m).c := rfl
@[simp] theorem adcA_cycles (m : Byte) (s : State) : (adcA m s).cycles = s.cycles := rfl
@[simp] theorem adcA_nmiPending (m : Byte) (s : State) : (adcA m s).nmiPending = s.nmiPending := rfl
@[simp] theorem adcA_irqPending (m : Byte) (s : State) : (adcA m s).irqPending = s.irqPending := rfl
@[simp] theorem adcA_latch (m : Byte) (s : State) : (adcA m s).latch = s.latch := rfl
@[simp] theorem adcA_ram (m : Byte) (s : State) : (adcA m s).ram = s.ram := rfl
@[simp] theorem adcA_fault (m : Byte) (s : State) : (adcA m s).fault = s.fault := rfl
@[simp] theorem adcA_irqSignals (m : Byte) (s : State) : (adcA m s).irqSignals = s.irqSignals := rfl
@[simp] theorem adcA_devices (m : Byte) (s : State) : (adcA m s).devices = s.devices := rfl
@[simp] theorem adcA_cfg (m : Byte) (s : State) : (adcA m s).cfg = s.cfg := rfl
@[simp] theorem adcA_freeCount (m : Byte) (s : State) : (adcA m s).freeCount = s.freeCount := rfl

/-! ### `sbcA` -/

@[simp] theorem sbcA_a (m : Byte) (s : State) : (sbcA m s).a = (sbcOut s m).acc := rfl
@[simp] theorem sbcA_x (m : Byte) (s : State) : (sbcA m s).x = s.x := rfl
@[simp] theorem sbcA_y (m : Byte) (s : State) : (sbcA m s).y = s.y := rfl
@[simp] theorem sbcA_sp (m : Byte) (s : State) : (sbcA m s).sp = s.sp := rfl
@[simp] theorem sbcA_pc (m : Byte) (s : State) : (sbcA m s).pc = s.pc := rfl
@[simp] theorem sbcA_n (m : Byte) (s : State) : (sbcA m s).n = (sbcOut s m).n := rfl
@[simp] theorem sbcA_v (m : Byte) (s : State) : (sbcA m s).v = (sbcOut s m).v := rfl
@[simp] theorem sbcA_d (m : Byte) (s : State) : (sbcA m s).d = s.d := rfl
@[simp] theorem sbcA_i (m : Byte) (s : State) : (sbcA m s).i = s.i := rfl
@[simp] theorem sbcA_z (m : Byte) (s : State) : (sbcA m s).z = (sbcOut s m).z := rfl
@[simp] theorem sbcA_c (m : Byte) (s : State) : (sbcA m s).c = (sbcOut s m).c := rfl
@[simp] theorem sbcA_cycles (m : Byte) (s : State) : (sbcA m s).cycles = s.cycles := rfl
@[simp] theorem sbcA_nmiPending (m : Byte) (s : State) : (sbcA m s).nmiPending = s.nmiPending := rfl
@[simp] theorem sbcA_irqPending (m : Byte) (s : State) : (sbcA m s).irqPending = s.irqPending := rfl
@[simp] theorem sbcA_latch (m : Byte) (s : State) : (sbcA m s).latch = s.latch := rfl
@[simp] theorem sbcA_ram (m : Byte) (s : State) : (sbcA m s).ram = s.ram := rfl
@[simp] theorem sbcA_fault (m : Byte) (s : State) : (sbcA m s).fault = s.fault := rfl
@[simp] theorem sbcA_irqSignals (m : Byte) (s : State) : (sbcA m s).irqSignals = s.irqSignals := rfl
@[simp] theorem sbcA_devices (m : Byte) (s : State) : (sbcA m s).devices = s.devices := rfl
@[simp] theorem sbcA_cfg (m : Byte) (s : State) : (sbcA m s).cfg = s.cfg := rfl
@[simp] theorem sbcA_freeCount (m : Byte) (s : State) : (sbcA m s).freeCount = s.freeCount := rfl

/-! ### `cmpA` -/

@[simp] theorem cmpA_a (m : Byte) (s : State) : (cmpA m s).a = s.a := rfl
@[simp] theorem cmpA_x (m : Byte) (s : State) : (cmpA m s).x = s.x := rfl
@[simp] theorem cmpA_y (m : Byte) (s : State) : (cmpA m s).y = s.y := rfl
@[simp] theorem cmpA_sp (m : Byte) (s : State) : (cmpA m s).sp = s.sp := rfl
@[simp] theorem cmpA_pc (m : Byte) (s : State) : (cmpA m s).pc = s.pc := rfl
@[simp] theorem cmpA_n (m : Byte) (s : State) : (cmpA m s).n = (s.a - m).getLsbD 7 := rfl
@[simp] theorem cmpA_v (m : Byte) (s : State) : (cmpA m s).v = s.v := rfl
@[simp] theorem cmpA_d (m : Byte) (s : State) : (cmpA m s).d = s.d := rfl
@[simp] theorem cmpA_i (m : Byte) (s : State) : (cmpA m s).i = s.i := rfl
@[simp] theorem cmpA_z (m : Byte) (s : State) : (cmpA m s).z = (s.a == m) := rfl
@[simp] theorem cmpA_c (m : Byte) (s : State) : (cmpA m s).c = decide (m.toNat ≤ s.a.toNat) := rfl
@[simp] theorem cmpA_cycles (m : Byte) (s : State) : (cmpA m s).cycles = s.cycles := rfl
@[simp] theorem cmpA_nmiPending (m : Byte) (s : State) : (cmpA m s).nmiPending = s.nmiPending := rfl
@[simp] theorem cmpA_irqPending (m : Byte) (s : State) : (cmpA m s).irqPending = s.irqPending := rfl
@[simp] theorem cmpA_latch (m : Byte) (s : State) : (cmpA m s).latch = s.latch := rfl
@[simp] theorem cmpA_ram (m : Byte) (s : State) : (cmpA m s).ram = s.ram := rfl
@[simp] theorem cmpA_fault (m : Byte) (s : State) : (cmpA m s).fault = s.fault := rfl
@[simp] theorem cmpA_irqSignals (m : Byte) (s : State) : (cmpA m s).irqSignals = s.irqSignals := rfl
@[simp] theorem cmpA_devices (m : Byte) (s : State) : (cmpA m s).devices = s.devices := rfl
@[simp] theorem cmpA_cfg (m : Byte) (s : State) : (cmpA m s).cfg = s.cfg := rfl
@[simp] theorem cmpA_freeCount (m : Byte) (s : State) : (cmpA m s).freeCount = s.freeCount := rfl

/-! ### `cmpX` -/

@[simp] theorem cmpX_a (m : Byte) (s : State) : (cmpX m s).a = s.a := rfl
@[simp] theorem cmpX_x (m : Byte) (s : State) : (cmpX m s).x = s.x := rfl
@[simp] theorem cmpX_y (m : Byte) (s : State) : (cmpX m s).y = s.y := rfl
@[simp] theorem cmpX_sp (m : Byte) (s : State) : (cmpX m s).sp = s.sp := rfl
@[simp] theorem cmpX_pc (m : Byte) (s : State) : (cmpX m s).pc = s.pc := rfl
@[simp] theorem cmpX_n (m : Byte) (s : State) : (cmpX m s).n = (s.x - m).getLsbD 7 := rfl
@[simp] theorem cmpX_v (m : Byte) (s : State) : (cmpX m s).v = s.v := rfl
@[simp] theorem cmpX_d (m : Byte) (s : State) : (cmpX m s).d = s.d := rfl
@[simp] theorem cmpX_i (m : Byte) (s : State) : (cmpX m s).i = s.i := rfl
@[simp] theorem cmpX_z (m : Byte) (s : State) : (cmpX m s).z = (s.x == m) := rfl
@[simp] theorem cmpX_c (m : Byte) (s : State) : (cmpX m s).c = decide (m.toNat ≤ s.x.toNat) := rfl
@[simp] theorem cmpX_cycles (m : Byte) (s : State) : (cmpX m s).cycles = s.cycles := rfl
@[simp] theorem cmpX_nmiPending (m : Byte) (s : State) : (cmpX m s).nmiPending = s.nmiPending := rfl
@[simp] theorem cmpX_irqPending (m : Byte) (s : State) : (cmpX m s).irqPending = s.irqPending := rfl
@[simp] theorem cmpX_latch (m : Byte) (s : State) : (cmpX m s).latch = s.latch := rfl
@[simp] theorem cmpX_ram (m : Byte) (s : State) : (cmpX m s).ram = s.ram := rfl
@[simp] theorem cmpX_fault (m : Byte) (s : State) : (cmpX m s).fault = s.fault := rfl
@[simp] theorem cmpX_irqSignals (m : Byte) (s : State) : (cmpX m s).irqSignals = s.irqSignals := rfl
@[simp] theorem cmpX_devices (m : Byte) (s : State) : (cmpX m s).devices = s.devices := rfl
@[simp] theorem cmpX_cfg (m : Byte) (s : State) : (cmpX m s).cfg = s.cfg := rfl
@[simp] theorem cmpX_freeCount (m : Byte) (s : State) : (cmpX m s).freeCount = s.freeCount := rfl

/-! ### `cmpY` -/

@[simp] theorem cmpY_a (m : Byte) (s : State) : (cmpY m s).a = s.a := rfl
@[simp] theorem cmpY_x (m : Byte) (s : State) : (cmpY m s).x = s.x := rfl
@[simp] theorem cmpY_y (m : Byte) (s : State) : (cmpY m s).y = s.y := rfl
@[simp] theorem cmpY_sp (m : Byte) (s : State) : (cmpY m s).sp = s.sp := rfl
@[simp] theorem cmpY_pc (m : Byte) (s : State) : (cmpY m s).pc = s.pc := rfl
@[simp] theorem cmpY_n (m : Byte) (s : State) : (cmpY m s).n = (s.y - m).getLsbD 7 := rfl
@[simp] theorem cmpY_v (m : Byte) (s : State) : (cmpY m s).v = s.v := rfl
@[simp] theorem cmpY_d (m : Byte) (s : State) : (cmpY m s).d = s.d := rfl
@[simp] theorem cmpY_i (m : Byte) (s : State) : (cmpY m s).i = s.i := rfl
@[simp] theorem cmpY_z (m : Byte) (s : State) : (cmpY m s).z = (s.y == m) := rfl
@[simp] theorem cmpY_c (m : Byte) (s : State) : (cmpY m s).c = decide (m.toNat ≤ s.y.toNat) := rfl
@[simp] theorem cmpY_cycles (m : Byte) (s : State) : (cmpY m s).cycles = s.cycles := rfl
@[simp] theorem cmpY_nmiPending (m : Byte) (s : State) : (cmpY m s).nmiPending = s.nmiPending := rfl
@[simp] theorem cmpY_irqPending (m : Byte) (s : State) : (cmpY m s).irqPending = s.irqPending := rfl
@[simp] theorem cmpY_latch (m : Byte) (s : State) : (cmpY m s).latch = s.latch := rfl
@[simp] theorem cmpY_ram (m : Byte) (s : State) : (cmpY m s).ram = s.ram := rfl
@[simp] theorem cmpY_fault (m : Byte) (s : State) : (cmpY m s).fault = s.fault := rfl
@[simp] theorem cmpY_irqSignals (m : Byte) (s : State) : (cmpY m s).irqSignals = s.irqSignals := rfl
@[simp] theorem cmpY_devices (m : Byte) (s : State) : (cmpY m s).devices = s.devices := rfl
@[simp] theorem cmpY_cfg (m : Byte) (s : State) : (cmpY m s).cfg = s.cfg := rfl
@[simp] theorem cmpY_freeCount (m : Byte) (s : State) : (cmpY m s).freeCount = s.freeCount := rfl

/-! ### `pullA` -/

@[simp] theorem pullA_a (s : State) : (pullA s).a = pullByte s := rfl
@[simp] theorem pullA_x (s : State) : (pullA s).x = s.x := rfl
@[simp] theorem pullA_y (s : State) : (pullA s).y = s.y := rfl
@[simp] theorem pullA_sp (s : State) : (pullA s).sp = s.sp + 1 := rfl
@[simp] theorem pullA_pc (s : State) : (pullA s).pc = s.pc := rfl
@[simp] theorem pullA_n (s : State) : (pullA s).n = (pullByte s).getLsbD 7 := rfl
@[simp] theorem pullA_v (s : State) : (pullA s).v = s.v := rfl
@[simp] theorem pullA_d (s : State) : (pullA s).d = s.d := rfl
@[simp] theorem pullA_i (s : State) : (pullA s).i = s.i := rfl
@[simp] theorem pullA_z (s : State) : (pullA s).z = (pullByte s == 0) := rfl
@[simp] theorem pullA_c (s : State) : (pullA s).c = s.c := rfl
@[simp] theorem pullA_cycles (s : State) : (pullA s).cycles = s.cycles := rfl
@[simp] theorem pullA_nmiPending (s : State) : (pullA s).nmiPending = s.nmiPending := rfl
@[simp] theorem pullA_irqPending (s : State) : (pullA s).irqPending = s.irqPending := rfl
@[simp] theorem pullA_latch (s : State) : (pullA s).latch = s.latch := rfl
@[simp] theorem pullA_ram (s : State) : (pullA s).ram = s.ram := rfl
@[simp] theorem pullA_fault (s : State) : (pullA s).fault = s.fault := rfl
@[simp] theorem pullA_irqSignals (s : State) : (pullA s).irqSignals = s.irqSignals := rfl
@[simp] theorem pullA_devices (s : State) : (pullA s).devices = devicesAfterRead (stackAddr (s.sp + 1)) s := rfl
@[simp] theorem pullA_cfg (s : State) : (pullA s).cfg = s.cfg := rfl
@[simp] theorem pullA_freeCount (s : State) : (pullA s).freeCount = s.freeCount := rfl

/-! ### `pullP` -/

@[simp] theorem pullP_a (s : State) : (pullP s).a = s.a := rfl
@[simp] theorem pullP_x (s : State) : (pullP s).x = s.x := rfl
@[simp] theorem pullP_y (s : State) : (pullP s).y = s.y := rfl
@[simp] theorem pullP_sp (s : State) : (pullP s).sp = s.sp + 1 := rfl
@[simp] theorem pullP_pc (s : State) : (pullP s).pc = s.pc := rfl
@[simp] theorem pullP_n (s : State) : (pullP s).n = (pullByte s).getLsbD 7 := rfl
@[simp] theorem pullP_v (s : State) : (pullP s).v = (pullByte s).getLsbD 6 := rfl
@[simp] theorem pullP_d (s : State) : (pullP s).d = (pullByte s).getLsbD 3 := rfl
@[simp] theorem pullP_i (s : State) : (pullP s).i = (pullByte s).getLsbD 2 := rfl
@[simp] theorem pullP_z (s : State) : (pullP s).z = (pullByte s).getLsbD 1 := rfl
@[simp] theorem pullP_c (s : State) : (pullP s).c = (pullByte s).getLsbD 0 := rfl
@[simp] theorem pullP_cycles (s : State) : (pullP s).cycles = s.cycles := rfl
@[simp] theorem pullP_nmiPending (s : State) : (pullP s).nmiPending = s.nmiPending := rfl
@[simp] theorem pullP_irqPending (s : State) : (pullP s).irqPending = s.irqPending := rfl
@[simp] theorem pullP_latch (s : State) : (pullP s).latch = s.latch := rfl
@[simp] theorem pullP_ram (s : State) : (pullP s).ram = s.ram := rfl
@[simp] theorem pullP_fault (s : State) : (pullP s).fault = s.fault := rfl
@[simp] theorem pullP_irqSignals (s : State) : (pullP s).irqSignals = s.irqSignals := rfl
@[simp] theorem pullP_devices (s : State) : (pullP s).devices = devicesAfterRead (stackAddr (s.sp + 1)) s := rfl
@[simp] theorem pullP_cfg (s : State) : (pullP s).cfg = s.cfg := rfl
@[simp] theorem pullP_freeCount (s : State) : (pullP s).freeCount = s.freeCount := rfl

/-! ### `resetRegisters` -/

@[simp] theorem resetRegisters_a (s : State) : (resetRegisters s).a = s.a := rfl
@[simp] theorem resetRegisters_x (s : State) : (resetRegisters s).x = s.x := rfl
@[simp] theorem resetRegisters_y (s : State) : (resetRegisters s).y = s.y := rfl
@[simp] theorem resetRegisters_sp (s : State) : (resetRegisters s).sp = resetSp := rfl
@[simp] theorem resetRegisters_pc (s : State) : (resetRegisters s).pc = s.pc := rfl
@[simp] theorem resetRegisters_n (s : State) : (resetRegisters s).n = false := rfl
@[simp] theorem resetRegisters_v (s : State) : (resetRegisters s).v = false := rfl
@[simp] theorem resetRegisters_d (s : State) : (resetRegisters s).d = false := rfl
@[simp] theorem resetRegisters_i (s : State) : (resetRegisters s).i = true := rfl
@[simp] theorem resetRegisters_z (s : State) : (resetRegisters s).z = false := rfl
@[simp] theorem resetRegisters_c (s : State) : (resetRegisters s).c = false := rfl
@[simp] theorem resetRegisters_cycles (s : State) : (resetRegisters s).cycles = 0 := rfl
@[simp] theorem resetRegisters_nmiPending (s : State) : (resetRegisters s).nmiPending = false := rfl
@[simp] theorem resetRegisters_irqPending (s : State) : (resetRegisters s).irqPending = false := rfl
@[simp] theorem resetRegisters_latch (s : State) : (resetRegisters s).latch = latchReset := rfl
@[simp] theorem resetRegisters_ram (s : State) : (resetRegisters s).ram = s.ram := rfl
@[simp] theorem resetRegisters_fault (s : State) : (resetRegisters s).fault = none := rfl
@[simp] theorem resetRegisters_irqSignals (s : State) : (resetRegisters s).irqSignals = s.irqSignals := rfl
@[simp] theorem resetRegisters_devices (s : State) : (resetRegisters s).devices = s.devices := rfl
@[simp] theorem resetRegisters_cfg (s : State) : (resetRegisters s).cfg = s.cfg := rfl
@[simp] theorem resetRegisters_freeCount (s : State) : (resetRegisters s).freeCount = s.freeCount := rfl

/-! ### `pushFrame` -/

@[simp] theorem pushFrame_a (ret : Addr) (brk : Bool) (s : State) : (pushFrame ret brk s).a = s.a := by rfl
@[simp] theorem pushFrame_x (ret : Addr) (brk : Bool) (s : State) : (pushFrame ret brk s).x = s.x := by rfl
@[simp] theorem pushFrame_y (ret : Addr) (brk : Bool) (s : State) : (pushFrame ret brk s).y = s.y := by rfl
@[simp] theorem pushFrame_sp (ret : Addr) (brk : Bool) (s : State) : (pushFrame ret brk s).sp = s.sp - 1 - 1 - 1 := by rfl
@[simp] theorem pushFrame_pc (ret : Addr) (brk : Bool) (s : State) : (pushFrame ret brk s).pc = s.pc := by rfl
@[simp] theorem pushFrame_n (ret : Addr) (brk : Bool) (s : State) : (pushFrame ret brk s).n = s.n := by rfl
@[simp] theorem pushFrame_v (ret : Addr) (brk : Bool) (s : State) : (pushFrame ret brk s).v = s.v := by rfl
@[simp] theorem pushFrame_d (ret : Addr) (brk : Bool) (s : State) : (pushFrame ret brk s).d = s.d := by rfl
@[simp] theorem pushFrame_i (ret : Addr) (brk : Bool) (s : State) : (pushFrame ret brk s).i = s.i := by rfl
@[simp] theorem pushFrame_z (ret : Addr) (brk : Bool) (s : State) : (pushFrame ret brk s).z = s.z := by rfl
@[simp] theorem pushFrame_c (ret : Addr) (brk : Bool) (s : State) : (pushFrame ret brk s).c = s.c := by rfl
@[simp] theorem pushFrame_cycles (ret : Addr) (brk : Bool) (s : State) : (pushFrame ret brk s).cycles = s.cycles := by rfl
@[simp] theorem pushFrame_nmiPending (ret : Addr) (brk : Bool) (s : State) : (pushFrame ret brk s).nmiPending = s.nmiPending := by rfl
@[simp] theorem pushFrame_irqPending (ret : Addr) (brk : Bool) (s : State) : (pushFrame ret brk s).irqPending = s.irqPending := by rfl
@[simp] theorem pushFrame_fault (ret : Addr) (brk : Bool) (s : State) : (pushFrame ret brk s).fault = s.fault := by rfl
@[simp] theorem pushFrame_irqSignals (ret : Addr) (brk : Bool) (s : State) : (pushFrame ret brk s).irqSignals = s.irqSignals := by rfl
@[simp] theorem pushFrame_cfg (ret : Addr) (brk : Bool) (s : State) : (pushFrame ret brk s).cfg = s.cfg := by rfl
@[simp] theorem pushFrame_freeCount (ret : Addr) (brk : Bool) (s : State) : (pushFrame ret brk s).freeCount = s.freeCount := by rfl

/-! ### `takeException` -/

@[simp] theorem takeException_a (ret : Addr) (brk : Bool) (vector : Addr) (s : State) : (takeException ret brk vector s).a = s.a := by
  simp [takeException]
@[simp] theorem takeException_x (ret : Addr) (brk : Bool) (vector : Addr) (s : State) : (takeException ret brk vector s).x = s.x := by
  simp [takeException]
@[simp] theorem takeException_y (ret : Addr) (brk : Bool) (vector : Addr) (s : State) : (takeException ret brk vector s).y = s.y := by
  simp [takeException]
@[simp] theorem takeException_sp (ret : Addr) (brk : Bool) (vector : Addr) (s : State) : (takeException ret brk vector s).sp = s.sp - 1 - 1 - 1 := by
  simp [takeException]
@[simp] theorem takeException_n (ret : Addr) (brk : Bool) (vector : Addr) (s : State) : (takeException ret brk vector s).n = s.n := by
  simp [takeException]
@[simp] theorem takeException_v (ret : Addr) (brk : Bool) (vector : Addr) (s : State) : (takeException ret brk vector s).v = s.v := by
  simp [takeException]
@[simp] theorem takeException_d (ret : Addr) (brk : Bool) (vector : Addr) (s : State) : (takeException ret brk vector s).d = s.d := by
  simp [takeException]
@[simp] theorem takeException_i (ret : Addr) (brk : Bool) (vector : Addr) (s : State) : (takeException ret brk vector s).i = true := by
  simp [takeException]
@[simp] theorem takeException_z (ret : Addr) (brk : Bool) (vector : Addr) (s : State) : (takeException ret brk vector s).z = s.z := by
  simp [takeException]
@[simp] theorem takeException_c (ret : Addr) (brk : Bool) (vector : Addr) (s : State) : (takeException ret brk vector s).c = s.c := by
  simp [takeException]
@[simp] theorem takeException_cycles (ret : Addr) (brk : Bool) (vector : Addr) (s : State) : (takeException ret brk vector s).cycles = s.cycles + intCycles := by
  simp [takeException]
@[simp] theorem takeException_nmiPending (ret : Addr) (brk : Bool) (vector : Addr) (s : State) : (takeException ret brk vector s).nmiPending = s.nmiPending := by
  simp [takeException]
@[simp] theorem takeException_irqPending (ret : Addr) (brk : Bool) (vector : Addr) (s : State) : (takeException ret brk vector s).irqPending = s.irqPending := by
  simp [takeException]
@[simp] theorem takeException_latch (ret : Addr) (brk : Bool) (vector : Addr) (s : State) : (takeException ret brk vector s).latch = (pushFrame ret brk s).latch := by
  simp [takeException]
@[simp] theorem takeException_ram (ret : Addr) (brk : Bool) (vector : Addr) (s : State) : (takeException ret brk vector s).ram = (pushFrame ret brk s).ram := by
  simp [takeException]
@[simp] theorem takeException_fault (ret : Addr) (brk : Bool) (vector : Addr) (s : State) : (takeException ret brk vector s).fault = s.fault := by
  simp [takeException]
@[simp] theorem takeException_irqSignals (ret : Addr) (brk : Bool) (vector : Addr) (s : State) : (takeException ret brk vector s).irqSignals = s.irqSignals := by
  simp [takeException]
@[simp] theorem takeException_cfg (ret : Addr) (brk : Bool) (vector : Addr) (s : State) : (takeException ret brk vector s).cfg = s.cfg := by
  simp [takeException]
@[simp] theorem takeException_freeCount (ret : Addr) (brk : Bool) (vector : Addr) (s : State) : (takeException ret brk vector s).freeCount = s.freeCount := by
  simp [takeException]

/-! ### `pushReturn` -/

@[simp] theorem pushReturn_a (s : State) : (pushReturn s).a = s.a := by rfl
@[simp] theorem pushReturn_x (s : State) : (pushReturn s).x = s.x := by rfl
@[simp] theorem pushReturn_y (s : State) : (pushReturn s).y = s.y := by rfl
@[simp] theorem pushReturn_sp (s : State) : (pushReturn s).sp = s.sp - 1 - 1 := by rfl
@[simp] theorem pushReturn_pc (s : State) : (pushReturn s).pc = s.pc := by rfl
@[simp] theorem pushReturn_n (s : State) : (pushReturn s).n = s.n := by rfl
@[simp] theorem pushReturn_v (s : State) : (pushReturn s).v = s.v := by rfl
@[simp] theorem pushReturn_d (s : State) : (pushReturn s).d = s.d := by rfl
@[simp] theorem pushReturn_i (s : State) : (pushReturn s).i = s.i := by rfl
@[simp] theorem pushReturn_z (s : State) : (pushReturn s).z = s.z := by rfl
@[simp] theorem pushReturn_c (s : State) : (pushReturn s).c = s.c := by rfl
@[simp] theorem pushReturn_cycles (s : State) : (pushReturn s).cycles = s.cycles := by rfl
@[simp] theorem pushReturn_nmiPending (s : State) : (pushReturn s).nmiPending = s.nmiPending := by rfl
@[simp] theorem pushReturn_irqPending (s : State) : (pushReturn s).irqPending = s.irqPending := by rfl
@[simp] theorem pushReturn_fault (s : State) : (pushReturn s).fault = s.fault := by rfl
@[simp] theorem pushReturn_irqSignals (s : State) : (pushReturn s).irqSignals = s.irqSignals := by rfl
@[simp] theorem pushReturn_cfg (s : State) : (pushReturn s).cfg = s.cfg := by rfl
@[simp] theorem pushReturn_freeCount (s : State) : (pushReturn s).freeCount = s.freeCount := by rfl

/-! ### `returnFromException` -/

@[simp] theorem returnFromException_a (s : State) : (returnFromException s).a = s.a := by
  simp [returnFromException]
@[simp] theorem returnFromException_x (s : State) : (returnFromException s).x = s.x := by
  simp [returnFromException]
@[simp] theorem returnFromException_y (s : State) : (returnFromException s).y = s.y := by
  simp [returnFromException]
@[simp] theorem returnFromException_sp (s : State) : (returnFromException s).sp = s.sp + 1 + 1 + 1 := by
  simp [returnFromException]
@[simp] theorem returnFromException_n (s : State) : (returnFromException s).n = (pullByte s).getLsbD 7 := by
  simp [returnFromException]
@[simp] theorem returnFromException_v (s : State) : (returnFromException s).v = (pullByte s).getLsbD 6 := by
  simp [returnFromException]
@[simp] theorem returnFromException_d (s : State) : (returnFromException s).d = (pullByte s).getLsbD 3 := by
  simp [returnFromException]
@[simp] theorem returnFromException_i (s : State) : (returnFromException s).i = (pullByte s).getLsbD 2 := by
  simp [returnFromException]
@[simp] theorem returnFromException_z (s : State) : (returnFromException s).z = (pullByte s).getLsbD 1 := by
  simp [returnFromException]
@[simp] theorem returnFromException_c (s : State) : (returnFromException s).c = (pullByte s).getLsbD 0 := by
  simp [returnFromException]
@[simp] theorem returnFromException_cycles (s : State) : (returnFromException s).cycles = s.cycles + 6 := by
  simp [returnFromException]
@[simp] theorem returnFromException_nmiPending (s : State) : (returnFromException s).nmiPending = s.nmiPending := by
  simp [returnFromException]
@[simp] theorem returnFromException_irqPending (s : State) : (returnFromException s).irqPending = s.irqPending := by
  simp [returnFromException]
@[simp] theorem returnFromException_latch (s : State) : (returnFromException s).latch = s.latch := by
  simp [returnFromException]
@[simp] theorem returnFromException_ram (s : State) : (returnFromException s).ram = s.ram := by
  simp [returnFromException]
@[simp] theorem returnFromException_fault (s : State) : (returnFromException s).fault = s.fault := by
  simp [returnFromException]
@[simp] theorem returnFromException_irqSignals (s : State) : (returnFromException s).irqSignals = s.irqSignals := by
  simp [returnFromException]
@[simp] theorem returnFromException_cfg (s : State) : (returnFromException s).cfg = s.cfg := by
  simp [returnFromException]
@[simp] theorem returnFromException_freeCount (s : State) : (returnFromException s).freeCount = s.freeCount := by
  simp [returnFromException]

/-! ### `enter` -/

@[simp] theorem enter_a (kind : InterruptKind) (s : State) : (enter kind s).a = s.a := by
  cases kind <;> simp [enter]
@[simp] theorem enter_x (kind : InterruptKind) (s : State) : (enter kind s).x = s.x := by
  cases kind <;> simp [enter]
@[simp] theorem enter_y (kind : InterruptKind) (s : State) : (enter kind s).y = s.y := by
  cases kind <;> simp [enter]
@[simp] theorem enter_sp (kind : InterruptKind) (s : State) : (enter kind s).sp = s.sp - 1 - 1 - 1 := by
  cases kind <;> simp [enter]
@[simp] theorem enter_n (kind : InterruptKind) (s : State) : (enter kind s).n = s.n := by
  cases kind <;> simp [enter]
@[simp] theorem enter_v (kind : InterruptKind) (s : State) : (enter kind s).v = s.v := by
  cases kind <;> simp [enter]
@[simp] theorem enter_d (kind : InterruptKind) (s : State) : (enter kind s).d = s.d := by
  cases kind <;> simp [enter]
@[simp] theorem enter_i (kind : InterruptKind) (s : State) : (enter kind s).i = true := by
  cases kind <;> simp [enter]
@[simp] theorem enter_z (kind : InterruptKind) (s : State) : (enter kind s).z = s.z := by
  cases kind <;> simp [enter]
@[simp] theorem enter_c (kind : InterruptKind) (s : State) : (enter kind s).c = s.c := by
  cases kind <;> simp [enter]
@[simp] theorem enter_cycles (kind : InterruptKind) (s : State) : (enter kind s).cycles = s.cycles + intCycles := by
  cases kind <;> simp [enter]
@[simp] theorem enter_latch (kind : InterruptKind) (s : State) : (enter kind s).latch = (pushFrame s.pc false s).latch := by
  cases kind <;> simp [enter]
@[simp] theorem enter_ram (kind : InterruptKind) (s : State) : (enter kind s).ram = (pushFrame s.pc false s).ram := by
  cases kind <;> simp [enter]
@[simp] theorem enter_fault (kind : InterruptKind) (s : State) : (enter kind s).fault = s.fault := by
  cases kind <;> simp [enter]
@[simp] theorem enter_irqSignals (kind : InterruptKind) (s : State) : (enter kind s).irqSignals = s.irqSignals := by
  cases kind <;> simp [enter]
@[simp] theorem enter_cfg (kind : InterruptKind) (s : State) : (enter kind s).cfg = s.cfg := by
  cases kind <;> simp [enter]
@[simp] theorem enter_freeCount (kind : InterruptKind) (s : State) : (enter kind s).freeCount = s.freeCount := by
  cases kind <;> simp [enter]

/-! ### `fatalDecode` -/

@[simp] theorem fatalDecode_cycles (op : Byte) (k : Addr) (s : State) : (fatalDecode op k s).cycles = s.cycles + (Config.afterFault s.freeCount).cyclesAdded := by rfl
@[simp] theorem fatalDecode_nmiPending (op : Byte) (k : Addr) (s : State) : (fatalDecode op k s).nmiPending = s.nmiPending := by rfl
@[simp] theorem fatalDecode_irqPending (op : Byte) (k : Addr) (s : State) : (fatalDecode op k s).irqPending = s.irqPending := by rfl
@[simp] theorem fatalDecode_latch (op : Byte) (k : Addr) (s : State) : (fatalDecode op k s).latch = s.latch := by rfl
@[simp] theorem fatalDecode_ram (op : Byte) (k : Addr) (s : State) : (fatalDecode op k s).ram = s.ram := by rfl
@[simp] theorem fatalDecode_fault (op : Byte) (k : Addr) (s : State) : (fatalDecode op k s).fault = some (op, k) := by rfl
@[simp] theorem fatalDecode_irqSignals (op : Byte) (k : Addr) (s : State) : (fatalDecode op k s).irqSignals = s.irqSignals := by rfl
@[simp] theorem fatalDecode_devices (op : Byte) (k : Addr) (s : State) : (fatalDecode op k s).devices = s.devices := by rfl
@[simp] theorem fatalDecode_cfg (op : Byte) (k : Addr) (s : State) : (fatalDecode op k s).cfg = s.cfg := by rfl
@[simp] theorem fatalDecode_freeCount (op : Byte) (k : Addr) (s : State) : (fatalDecode op k s).freeCount = s.freeCount + 1 := by rfl

/-! ### `resetMachine` -/

@[simp] theorem resetMachine_a (s : State) : (resetMachine s).a = s.a := by
  simp [resetMachine]
@[simp] theorem resetMachine_x (s : State) : (resetMachine s).x = s.x := by
  simp [resetMachine]
@[simp] theorem resetMachine_y (s : State) : (resetMachine s).y = s.y := by
  simp [resetMachine]
@[simp] theorem resetMachine_sp (s : State) : (resetMachine s).sp = 0xFD := by
  simp [resetMachine, resetSp]
@[simp] theorem resetMachine_n (s : State) : (resetMachine s).n = false := by
  simp [resetMachine]
@[simp] theorem resetMachine_v (s : State) : (resetMachine s).v = false := by
  simp [resetMachine]
@[simp] theorem resetMachine_d (s : State) : (resetMachine s).d = false := by
  simp [resetMachine]
@[simp] theorem resetMachine_i (s : State) : (resetMachine s).i = true := by
  simp [resetMachine]
@[simp] theorem resetMachine_z (s : State) : (resetMachine s).z = false := by
  simp [resetMachine]
@[simp] theorem resetMachine_c (s : State) : (resetMachine s).c = false := by
  simp [resetMachine]
@[simp] theorem resetMachine_cycles (s : State) : (resetMachine s).cycles = 0 := by
  simp [resetMachine]
@[simp] theorem resetMachine_nmiPending (s : State) : (resetMachine s).nmiPending = false := by
  simp [resetMachine]
@[simp] theorem resetMachine_irqPending (s : State) : (resetMachine s).irqPending = false := by
  simp [resetMachine]
@[simp] theorem resetMachine_latch (s : State) : (resetMachine s).latch = 0x37 := by
  simp [resetMachine, latchReset]
@[simp] theorem resetMachine_ram (s : State) : (resetMachine s).ram = s.ram := by
  simp [resetMachine]
@[simp] theorem resetMachine_fault (s : State) : (resetMachine s).fault = none := by
  simp [resetMachine]
@[simp] theorem resetMachine_irqSignals (s : State) : (resetMachine s).irqSignals = s.irqSignals := by
  simp [resetMachine]
@[simp] theorem resetMachine_cfg (s : State) : (resetMachine s).cfg = s.cfg := by
  simp [resetMachine]
@[simp] theorem resetMachine_freeCount (s : State) : (resetMachine s).freeCount = s.freeCount := by
  simp [resetMachine]

end Sys2Proof.Machine
end

