-- ==== Sys2Proof/Laws/Bus.lean ====
section
/-! SUPPORT. What one bus access can do: the cases of `owner`, of a read's effect and of a write, and that RAM keeps its canonical form. -/

namespace Sys2Proof.Machine

/-- A bus read sees only the configuration, the latch, RAM and the devices. -/
theorem busRead_congr (a : Addr) (s t : State) (hcfg : s.cfg = t.cfg) (hl : s.latch = t.latch) (hr : s.ram = t.ram)
    (hd : s.devices = t.devices) : busRead a s = busRead a t := by
  simp only [busRead, hcfg, hl, hr, hd]

/-- A write is never answered by ROM (20_memory.md R61). -/
theorem owner_write_ne_rom (cfg : Config) (latch : Byte) (a : Addr) (r : Rom) : owner cfg latch .write a ≠ .rom r := by
  unfold owner peripheralOrRam
  repeat' split
  all_goals simp [romOwner]

/-- RAM is never the owner of `LATCH_ADDR` (20_memory.md R55). -/
theorem owner_latchAddr_ne_ram (cfg : Config) (latch : Byte) (kind : Access) : owner cfg latch kind latchAddr ≠ .ram := by
  unfold owner
  split <;> simp

/-- Where the cartridge does not claim `LATCH_ADDR`, the latch is there (20_memory.md R55). -/
theorem owner_latchAddr (cfg : Config) (latch : Byte) (kind : Access) (h : cartClaims cfg latch kind latchAddr = false) :
    owner cfg latch kind latchAddr = .latch := by
  simp [owner, h]

/-- A read that no device answers changes no state (20_memory.md R50, last sentence). -/
theorem afterRead_of_not_device (a : Addr) (s : State) (h : ∀ dev, owner s.cfg s.latch .read a ≠ .device dev) :
    afterRead a s = s := by
  have hd : devicesAfterRead a s = s.devices := by
    unfold devicesAfterRead
    split
    · exact absurd ‹_› (h _)
    all_goals rfl
  simp [afterRead, hd]

/-- The three things a bus write can do (20_memory.md R51). -/
theorem busWrite_cases (a : Addr) (b : Byte) (s : State) :
    (owner s.cfg s.latch .write a = .ram ∧ busWrite a b s = { s with ram := ramWrite s.ram a.toNat b }) ∨
    (owner s.cfg s.latch .write a = .latch ∧ busWrite a b s = { s with latch := b }) ∨
    (∃ dev, owner s.cfg s.latch .write a = .device dev ∧ busWrite a b s = { s with devices := .write dev a b :: s.devices }) := by
  unfold busWrite latchAfterWrite ramAfterWrite devicesAfterWrite
  match h : owner s.cfg s.latch .write a with
  | .ram => exact .inl ⟨rfl, rfl⟩
  | .latch => exact .inr (.inl ⟨rfl, rfl⟩)
  | .device dev => exact .inr (.inr ⟨dev, rfl, rfl⟩)
  | .rom r => exact absurd h (owner_write_ne_rom _ _ _ r)

/-- A read that RAM answers is RAM's byte (20_memory.md R50). -/
theorem busRead_of_ram {a : Addr} {s : State} (h : owner s.cfg s.latch .read a = .ram) : busRead a s = ramRead s.ram a.toNat := by
  simp [busRead, h]

/-- A read that RAM answers changes nothing. -/
theorem afterRead_of_ram {a : Addr} {s : State} (h : owner s.cfg s.latch .read a = .ram) : afterRead a s = s :=
  afterRead_of_not_device a s fun dev => by simp [h]

/-- A write that RAM answers changes that byte of RAM and nothing else (20_memory.md R51). -/
theorem busWrite_of_ram {a : Addr} {b : Byte} {s : State} (h : owner s.cfg s.latch .write a = .ram) :
    busWrite a b s = { s with ram := ramWrite s.ram a.toNat b } := by
  rcases busWrite_cases a b s with ⟨_, hw⟩ | ⟨ho, _⟩ | ⟨dev, ho, _⟩
  · exact hw
  · simp [h] at ho
  · simp [h] at ho

/-- A push onto a stack in RAM (10_state.md R24). -/
theorem push_of_ram {b : Byte} {s : State} (h : owner s.cfg s.latch .write (stackAddr s.sp) = .ram) :
    push b s = { s with sp := s.sp - 1, ram := ramWrite s.ram (stackAddr s.sp).toNat b } := by
  rw [push, busWrite_of_ram h]
  rfl

/-- Only the byte at the address written can change in RAM (20_memory.md R59). -/
theorem ramRead_ramAfterWrite_other (a : Addr) (b : Byte) (s : State) (k : Nat) (h : k ≠ a.toNat) :
    ramRead (ramAfterWrite a b s) k = ramRead s.ram k := by
  unfold ramAfterWrite
  split
  · exact ramRead_ramWrite_other _ _ _ _ h
  all_goals rfl

/-- RAM behind the latch address is never written through the bus (20_memory.md R55). -/
theorem ramRead_ramAfterWrite_latchAddr (a : Addr) (b : Byte) (s : State) :
    ramRead (ramAfterWrite a b s) latchAddr.toNat = ramRead s.ram latchAddr.toNat := by
  by_cases h : a = latchAddr
  · subst h
    unfold ramAfterWrite
    split
    · exact absurd ‹_› (owner_latchAddr_ne_ram _ _ _)
    all_goals rfl
  · refine ramRead_ramAfterWrite_other _ _ _ _ fun hk => h (BitVec.eq_of_toNat_eq hk.symm)

/-- A bus write keeps RAM's canonical form. -/
theorem ramAfterWrite_wf (a : Addr) (b : Byte) (s : State) (h : Memory.wf s.ram) : Memory.wf (ramAfterWrite a b s) := by
  unfold ramAfterWrite
  split
  · exact ramWrite_wf _ _ _ a.isLt h
  all_goals exact h

theorem busWrite_wf (a : Addr) (b : Byte) (s : State) (h : Memory.wf s.ram) : Memory.wf (busWrite a b s).ram :=
  ramAfterWrite_wf a b s h

theorem push_wf (b : Byte) (s : State) (h : Memory.wf s.ram) : Memory.wf (push b s).ram := ramAfterWrite_wf _ b s h

theorem pushFrame_wf (ret : Addr) (brk : Bool) (s : State) (h : Memory.wf s.ram) : Memory.wf (pushFrame ret brk s).ram :=
  push_wf _ _ (push_wf _ _ (push_wf _ _ h))

/-- An entry's device accesses are its three pushes and then the two vector reads. -/
theorem takeException_devices (ret : Addr) (brk : Bool) (vector : Addr) (s : State) :
    (takeException ret brk vector s).devices = (afterReadWord vector (setI true (pushFrame ret brk s))).devices := by
  simp only [takeException, jumpTo_devices]

theorem enter_devices (kind : InterruptKind) (s : State) :
    (enter kind s).devices =
      (takeException s.pc false (match kind with | .nmi => vecNmi | .irq => vecIrq) s).devices := by
  cases kind <;> simp only [enter, clearNmi_devices, clearIrq_devices]

theorem takeException_wf (ret : Addr) (brk : Bool) (vector : Addr) (s : State) (h : Memory.wf s.ram) :
    Memory.wf (takeException ret brk vector s).ram := by
  rw [takeException_ram]
  exact pushFrame_wf ret brk s h

theorem enter_wf (kind : InterruptKind) (s : State) (h : Memory.wf s.ram) : Memory.wf (enter kind s).ram := by
  cases kind <;> simpa only [enter, clearNmi_ram, clearIrq_ram] using takeException_wf _ _ _ _ h

/-- `busReads` gives as many bytes as it is asked for. -/
@[simp] theorem busReads_length (k : Nat) (a : Addr) (s : State) : (busReads k a s).length = k := by
  induction k generalizing a s with
  | zero => rfl
  | succ k ih => simp [busReads, ih]

/-- Reads change nothing but the devices. -/
theorem afterReads_eq (k : Nat) (a : Addr) (s : State) :
    afterReads k a s = { s with devices := (afterReads k a s).devices } := by
  induction k generalizing a s with
  | zero => rfl
  | succ k ih =>
    rw [afterReads, ih]
    rfl

/-- Fetching changes nothing but the devices. -/
theorem afterFetch_eq (s : State) : afterFetch s = { s with devices := (afterFetch s).devices } := by
  rw [afterFetch, afterReads_eq]
  rfl

end Sys2Proof.Machine
end

