-- ==== Sys2Proof/Laws/Operands.lean ====
section
/-! SUPPORT. The operand forms: resolving and loading an operand changes nothing but the devices, a read-modify-write store only what a bus
write changes, or `A`. -/

namespace Sys2Proof.Machine

/-- The pointer reads of a mode change nothing but the devices. -/
theorem afterPointer_eq (m : MemMode) (s : State) : afterPointer m s = { s with devices := (afterPointer m s).devices } := by
  cases m <;> rfl

/-- Loading from memory changes nothing but the devices. -/
theorem afterMemRead_eq (m : MemMode) (s : State) : afterMemRead m s = { s with devices := (afterMemRead m s).devices } := by
  cases m <;> rfl

/-- Loading an operand changes nothing but the devices. -/
theorem afterLoad_eq (o : ReadOperand) (s : State) : afterLoad o s = { s with devices := (afterLoad o s).devices } := by
  cases o with
  | imm d8 => rfl
  | mem m => exact afterMemRead_eq m s

/-- A mode's effective address is computed before its reads and does not depend on `A`, flags or `PC`. -/
theorem memLength_pos (m : MemMode) : 2 ≤ memLength m ∧ memLength m ≤ 3 := by
  cases m <;> simp [memLength]

theorem pageCycle_le (o : ReadOperand) (s : State) : pageCycle o s ≤ 1 := by
  cases o with
  | imm d8 => simp [pageCycle]
  | mem m => simp only [pageCycle]; split <;> simp

/-- A read-modify-write store keeps RAM's canonical form. -/
theorem rmwStore_wf (o : RmwOperand) (r : Byte) (s : State) (h : Memory.wf s.ram) : Memory.wf (rmwStore o r s).ram := by
  cases o with
  | acc => exact h
  | mem m =>
    refine busWrite_wf _ _ _ ?_
    rw [afterMemRead_eq]
    exact h

/-! ### `afterPointer` -/

@[simp] theorem afterPointer_a (m : MemMode) (s : State) : (afterPointer m s).a = s.a := by rw [afterPointer_eq]
@[simp] theorem afterPointer_x (m : MemMode) (s : State) : (afterPointer m s).x = s.x := by rw [afterPointer_eq]
@[simp] theorem afterPointer_y (m : MemMode) (s : State) : (afterPointer m s).y = s.y := by rw [afterPointer_eq]
@[simp] theorem afterPointer_sp (m : MemMode) (s : State) : (afterPointer m s).sp = s.sp := by rw [afterPointer_eq]
@[simp] theorem afterPointer_pc (m : MemMode) (s : State) : (afterPointer m s).pc = s.pc := by rw [afterPointer_eq]
@[simp] theorem afterPointer_n (m : MemMode) (s : State) : (afterPointer m s).n = s.n := by rw [afterPointer_eq]
@[simp] theorem afterPointer_v (m : MemMode) (s : State) : (afterPointer m s).v = s.v := by rw [afterPointer_eq]
@[simp] theorem afterPointer_d (m : MemMode) (s : State) : (afterPointer m s).d = s.d := by rw [afterPointer_eq]
@[simp] theorem afterPointer_i (m : MemMode) (s : State) : (afterPointer m s).i = s.i := by rw [afterPointer_eq]
@[simp] theorem afterPointer_z (m : MemMode) (s : State) : (afterPointer m s).z = s.z := by rw [afterPointer_eq]
@[simp] theorem afterPointer_c (m : MemMode) (s : State) : (afterPointer m s).c = s.c := by rw [afterPointer_eq]
@[simp] theorem afterPointer_cycles (m : MemMode) (s : State) : (afterPointer m s).cycles = s.cycles := by rw [afterPointer_eq]
@[simp] theorem afterPointer_nmiPending (m : MemMode) (s : State) : (afterPointer m s).nmiPending = s.nmiPending := by rw [afterPointer_eq]
@[simp] theorem afterPointer_irqPending (m : MemMode) (s : State) : (afterPointer m s).irqPending = s.irqPending := by rw [afterPointer_eq]
@[simp] theorem afterPointer_latch (m : MemMode) (s : State) : (afterPointer m s).latch = s.latch := by rw [afterPointer_eq]
@[simp] theorem afterPointer_ram (m : MemMode) (s : State) : (afterPointer m s).ram = s.ram := by rw [afterPointer_eq]
@[simp] theorem afterPointer_fault (m : MemMode) (s : State) : (afterPointer m s).fault = s.fault := by rw [afterPointer_eq]
@[simp] theorem afterPointer_irqSignals (m : MemMode) (s : State) : (afterPointer m s).irqSignals = s.irqSignals := by rw [afterPointer_eq]
@[simp] theorem afterPointer_cfg (m : MemMode) (s : State) : (afterPointer m s).cfg = s.cfg := by rw [afterPointer_eq]
@[simp] theorem afterPointer_freeCount (m : MemMode) (s : State) : (afterPointer m s).freeCount = s.freeCount := by rw [afterPointer_eq]

/-! ### `afterMemRead` -/

@[simp] theorem afterMemRead_a (m : MemMode) (s : State) : (afterMemRead m s).a = s.a := by rw [afterMemRead_eq]
@[simp] theorem afterMemRead_x (m : MemMode) (s : State) : (afterMemRead m s).x = s.x := by rw [afterMemRead_eq]
@[simp] theorem afterMemRead_y (m : MemMode) (s : State) : (afterMemRead m s).y = s.y := by rw [afterMemRead_eq]
@[simp] theorem afterMemRead_sp (m : MemMode) (s : State) : (afterMemRead m s).sp = s.sp := by rw [afterMemRead_eq]
@[simp] theorem afterMemRead_pc (m : MemMode) (s : State) : (afterMemRead m s).pc = s.pc := by rw [afterMemRead_eq]
@[simp] theorem afterMemRead_n (m : MemMode) (s : State) : (afterMemRead m s).n = s.n := by rw [afterMemRead_eq]
@[simp] theorem afterMemRead_v (m : MemMode) (s : State) : (afterMemRead m s).v = s.v := by rw [afterMemRead_eq]
@[simp] theorem afterMemRead_d (m : MemMode) (s : State) : (afterMemRead m s).d = s.d := by rw [afterMemRead_eq]
@[simp] theorem afterMemRead_i (m : MemMode) (s : State) : (afterMemRead m s).i = s.i := by rw [afterMemRead_eq]
@[simp] theorem afterMemRead_z (m : MemMode) (s : State) : (afterMemRead m s).z = s.z := by rw [afterMemRead_eq]
@[simp] theorem afterMemRead_c (m : MemMode) (s : State) : (afterMemRead m s).c = s.c := by rw [afterMemRead_eq]
@[simp] theorem afterMemRead_cycles (m : MemMode) (s : State) : (afterMemRead m s).cycles = s.cycles := by rw [afterMemRead_eq]
@[simp] theorem afterMemRead_nmiPending (m : MemMode) (s : State) : (afterMemRead m s).nmiPending = s.nmiPending := by rw [afterMemRead_eq]
@[simp] theorem afterMemRead_irqPending (m : MemMode) (s : State) : (afterMemRead m s).irqPending = s.irqPending := by rw [afterMemRead_eq]
@[simp] theorem afterMemRead_latch (m : MemMode) (s : State) : (afterMemRead m s).latch = s.latch := by rw [afterMemRead_eq]
@[simp] theorem afterMemRead_ram (m : MemMode) (s : State) : (afterMemRead m s).ram = s.ram := by rw [afterMemRead_eq]
@[simp] theorem afterMemRead_fault (m : MemMode) (s : State) : (afterMemRead m s).fault = s.fault := by rw [afterMemRead_eq]
@[simp] theorem afterMemRead_irqSignals (m : MemMode) (s : State) : (afterMemRead m s).irqSignals = s.irqSignals := by rw [afterMemRead_eq]
@[simp] theorem afterMemRead_cfg (m : MemMode) (s : State) : (afterMemRead m s).cfg = s.cfg := by rw [afterMemRead_eq]
@[simp] theorem afterMemRead_freeCount (m : MemMode) (s : State) : (afterMemRead m s).freeCount = s.freeCount := by rw [afterMemRead_eq]

/-! ### `afterLoad` -/

@[simp] theorem afterLoad_a (o : ReadOperand) (s : State) : (afterLoad o s).a = s.a := by rw [afterLoad_eq]
@[simp] theorem afterLoad_x (o : ReadOperand) (s : State) : (afterLoad o s).x = s.x := by rw [afterLoad_eq]
@[simp] theorem afterLoad_y (o : ReadOperand) (s : State) : (afterLoad o s).y = s.y := by rw [afterLoad_eq]
@[simp] theorem afterLoad_sp (o : ReadOperand) (s : State) : (afterLoad o s).sp = s.sp := by rw [afterLoad_eq]
@[simp] theorem afterLoad_pc (o : ReadOperand) (s : State) : (afterLoad o s).pc = s.pc := by rw [afterLoad_eq]
@[simp] theorem afterLoad_n (o : ReadOperand) (s : State) : (afterLoad o s).n = s.n := by rw [afterLoad_eq]
@[simp] theorem afterLoad_v (o : ReadOperand) (s : State) : (afterLoad o s).v = s.v := by rw [afterLoad_eq]
@[simp] theorem afterLoad_d (o : ReadOperand) (s : State) : (afterLoad o s).d = s.d := by rw [afterLoad_eq]
@[simp] theorem afterLoad_i (o : ReadOperand) (s : State) : (afterLoad o s).i = s.i := by rw [afterLoad_eq]
@[simp] theorem afterLoad_z (o : ReadOperand) (s : State) : (afterLoad o s).z = s.z := by rw [afterLoad_eq]
@[simp] theorem afterLoad_c (o : ReadOperand) (s : State) : (afterLoad o s).c = s.c := by rw [afterLoad_eq]
@[simp] theorem afterLoad_cycles (o : ReadOperand) (s : State) : (afterLoad o s).cycles = s.cycles := by rw [afterLoad_eq]
@[simp] theorem afterLoad_nmiPending (o : ReadOperand) (s : State) : (afterLoad o s).nmiPending = s.nmiPending := by rw [afterLoad_eq]
@[simp] theorem afterLoad_irqPending (o : ReadOperand) (s : State) : (afterLoad o s).irqPending = s.irqPending := by rw [afterLoad_eq]
@[simp] theorem afterLoad_latch (o : ReadOperand) (s : State) : (afterLoad o s).latch = s.latch := by rw [afterLoad_eq]
@[simp] theorem afterLoad_ram (o : ReadOperand) (s : State) : (afterLoad o s).ram = s.ram := by rw [afterLoad_eq]
@[simp] theorem afterLoad_fault (o : ReadOperand) (s : State) : (afterLoad o s).fault = s.fault := by rw [afterLoad_eq]
@[simp] theorem afterLoad_irqSignals (o : ReadOperand) (s : State) : (afterLoad o s).irqSignals = s.irqSignals := by rw [afterLoad_eq]
@[simp] theorem afterLoad_cfg (o : ReadOperand) (s : State) : (afterLoad o s).cfg = s.cfg := by rw [afterLoad_eq]
@[simp] theorem afterLoad_freeCount (o : ReadOperand) (s : State) : (afterLoad o s).freeCount = s.freeCount := by rw [afterLoad_eq]

/-! ### `rmwStore` -/

@[simp] theorem rmwStore_x (o : RmwOperand) (r : Byte) (s : State) : (rmwStore o r s).x = s.x := by
  cases o <;> simp [rmwStore]
@[simp] theorem rmwStore_y (o : RmwOperand) (r : Byte) (s : State) : (rmwStore o r s).y = s.y := by
  cases o <;> simp [rmwStore]
@[simp] theorem rmwStore_sp (o : RmwOperand) (r : Byte) (s : State) : (rmwStore o r s).sp = s.sp := by
  cases o <;> simp [rmwStore]
@[simp] theorem rmwStore_pc (o : RmwOperand) (r : Byte) (s : State) : (rmwStore o r s).pc = s.pc := by
  cases o <;> simp [rmwStore]
@[simp] theorem rmwStore_n (o : RmwOperand) (r : Byte) (s : State) : (rmwStore o r s).n = s.n := by
  cases o <;> simp [rmwStore]
@[simp] theorem rmwStore_v (o : RmwOperand) (r : Byte) (s : State) : (rmwStore o r s).v = s.v := by
  cases o <;> simp [rmwStore]
@[simp] theorem rmwStore_d (o : RmwOperand) (r : Byte) (s : State) : (rmwStore o r s).d = s.d := by
  cases o <;> simp [rmwStore]
@[simp] theorem rmwStore_i (o : RmwOperand) (r : Byte) (s : State) : (rmwStore o r s).i = s.i := by
  cases o <;> simp [rmwStore]
@[simp] theorem rmwStore_z (o : RmwOperand) (r : Byte) (s : State) : (rmwStore o r s).z = s.z := by
  cases o <;> simp [rmwStore]
@[simp] theorem rmwStore_c (o : RmwOperand) (r : Byte) (s : State) : (rmwStore o r s).c = s.c := by
  cases o <;> simp [rmwStore]
@[simp] theorem rmwStore_cycles (o : RmwOperand) (r : Byte) (s : State) : (rmwStore o r s).cycles = s.cycles := by
  cases o <;> simp [rmwStore]
@[simp] theorem rmwStore_nmiPending (o : RmwOperand) (r : Byte) (s : State) : (rmwStore o r s).nmiPending = s.nmiPending := by
  cases o <;> simp [rmwStore]
@[simp] theorem rmwStore_irqPending (o : RmwOperand) (r : Byte) (s : State) : (rmwStore o r s).irqPending = s.irqPending := by
  cases o <;> simp [rmwStore]
@[simp] theorem rmwStore_fault (o : RmwOperand) (r : Byte) (s : State) : (rmwStore o r s).fault = s.fault := by
  cases o <;> simp [rmwStore]
@[simp] theorem rmwStore_irqSignals (o : RmwOperand) (r : Byte) (s : State) : (rmwStore o r s).irqSignals = s.irqSignals := by
  cases o <;> simp [rmwStore]
@[simp] theorem rmwStore_cfg (o : RmwOperand) (r : Byte) (s : State) : (rmwStore o r s).cfg = s.cfg := by
  cases o <;> simp [rmwStore]
@[simp] theorem rmwStore_freeCount (o : RmwOperand) (r : Byte) (s : State) : (rmwStore o r s).freeCount = s.freeCount := by
  cases o <;> simp [rmwStore]

@[simp] theorem rmwStore_acc_a (r : Byte) (s : State) : (rmwStore .acc r s).a = r := rfl
@[simp] theorem rmwStore_mem_a (m : MemMode) (r : Byte) (s : State) : (rmwStore (.mem m) r s).a = s.a := by simp [rmwStore]

end Sys2Proof.Machine
end

