-- ==== Sys2Proof/Laws/Step.lean ====
section
/-! SUPPORT. What a step can do, said once: the inversion of `step`, and the shape of every meaning's answer. -/

namespace Sys2Proof.Machine

/-- A step that answers a next state took an interrupt entry, ran an instruction, or raised the fatal decode fault
(60_exceptions.md R266). -/
theorem step_cases {s t : State} (h : step s = .next t) :
    s.cfg.wellFormed = true ∧ s.fault = none ∧
    ((∃ kind, pendingInterrupt (sampleIrq s) = some kind ∧ t = enter kind (sampleIrq s)) ∨
     (pendingInterrupt (sampleIrq s) = none ∧
       ((∃ i, fetchInstr (sampleIrq s) = some i ∧ exec i (afterFetch (sampleIrq s)) = .next t) ∨
        (fetchInstr (sampleIrq s) = none ∧
          t = fatalDecode (busRead s.pc (sampleIrq s)) s.pc (afterFetch (sampleIrq s)))))) := by
  unfold step at h
  split at h
  · rename_i hcfg
    split at h
    · cases h
    · rename_i hf
      refine ⟨hcfg, hf, ?_⟩
      simp only [boundary] at h
      split at h
      · rename_i kind hk
        cases h
        exact .inl ⟨kind, hk, rfl⟩
      · rename_i hk
        simp only [runInstruction] at h
        split at h
        · rename_i i hi
          exact .inr ⟨hk, .inl ⟨i, hi, h⟩⟩
        · rename_i hi
          cases h
          exact .inr ⟨hk, .inr ⟨hi, rfl⟩⟩
  · cases h

/-- In a well-formed configuration without a fault record, a step is the boundary's transition. -/
theorem step_eq_boundary (s : State) (hcfg : s.cfg.wellFormed = true) (hf : s.fault = none) : step s = boundary s := by
  simp [step, hcfg, hf]

/-- Without an interrupt to take, the boundary fetches and runs. -/
theorem boundary_eq_run (s : State) (h : pendingInterrupt (sampleIrq s) = none) : boundary s = runInstruction (sampleIrq s) := by
  simp [boundary, h]

/-- The next state a reading instruction answers. -/
theorem readOp_eq (o : ReadOperand) (base : Nat) (use : Byte → State → State) (s : State) :
    readOp o base use s = .next (advance (readLength o) (base + pageCycle o s) (use (readValue o s) (afterLoad o s))) := rfl

/-- The next state a store answers. -/
theorem storeOp_eq (m : MemMode) (base : Nat) (b : Byte) (s : State) :
    storeOp m base b s = .next (advance (memLength m) base (busWrite (effAddr m s) b (afterPointer m s))) := rfl

/-- The next state an increment, decrement or composite of one answers. -/
theorem rmwOp_eq (o : RmwOperand) (base : Nat) (change : Byte → Byte) (use : Byte → State → State) (s : State) :
    rmwOp o base change use s =
      .next (advance (rmwLength o) base (use (change (rmwValue o s)) (rmwStore o (change (rmwValue o s)) s))) := rfl

/-- The next state a shift, a rotate or a composite of one answers. -/
theorem shiftOp_eq (o : RmwOperand) (base : Nat) (shift : Byte → Bool → Byte × Bool) (use : Byte → State → State) (s : State) :
    shiftOp o base shift use s =
      .next (advance (rmwLength o) base
        (use (shift (rmwValue o s) s.c).1 (setC (shift (rmwValue o s) s.c).2 (rmwStore o (shift (rmwValue o s) s.c).1 s)))) :=
  rfl

end Sys2Proof.Machine
end

