-- ==== Sys2Proof/Laws/Word.lean ====
section
/-! SUPPORT. The splitting and joining of bytes and addresses (00_scope.md R9), as numbers. -/

namespace Sys2Proof

@[simp] theorem cat_toNat (h l : Byte) : (cat h l).toNat = h.toNat * 256 + l.toNat := by
  have e : (cat h l).toNat = h.toNat <<< 8 ||| l.toNat := BitVec.toNat_append h l
  rw [e, ← Nat.shiftLeft_add_eq_or_of_lt l.isLt, Nat.shiftLeft_eq]

@[simp] theorem lo_toNat (w : Addr) : (lo w).toNat = w.toNat % 256 := by
  simp [lo, BitVec.extractLsb'_toNat]

@[simp] theorem hi_toNat (w : Addr) : (hi w).toNat = w.toNat / 256 := by
  have hw : w.toNat < 65536 := w.isLt
  have e : w.toNat / 256 % 256 = w.toNat / 256 := Nat.mod_eq_of_lt (by omega)
  simp [hi, BitVec.extractLsb'_toNat, Nat.shiftRight_eq_div_pow, e]

@[simp] theorem cat_hi_lo (w : Addr) : cat (hi w) (lo w) = w := by
  apply BitVec.eq_of_toNat_eq
  simp only [cat_toNat, hi_toNat, lo_toNat]
  omega

@[simp] theorem hi_cat (h l : Byte) : hi (cat h l) = h := by
  have hl : l.toNat < 256 := l.isLt
  apply BitVec.eq_of_toNat_eq
  simp only [cat_toNat, hi_toNat]
  omega

@[simp] theorem lo_cat (h l : Byte) : lo (cat h l) = l := by
  have hl : l.toNat < 256 := l.isLt
  apply BitVec.eq_of_toNat_eq
  simp only [cat_toNat, lo_toNat]
  omega

namespace Machine

@[simp] theorem zext16_toNat (b : Byte) : (zext16 b).toNat = b.toNat := by
  have hb : b.toNat < 256 := b.isLt
  simp [zext16, BitVec.toNat_setWidth]
  omega

end Machine

end Sys2Proof
end

