-- ==== Sys2Proof/Laws/Exec.lean ====
section
/-! SUPPORT. What an instruction can do, said once: every meaning answers a next state, and it is one of the fourteen below. A statement
about every instruction is proved by these cases. -/

namespace Sys2Proof.Machine

/-- What a reading instruction does with its operand. -/
def readUses : List (Byte → State → State) :=
  [loadA, loadX, loadY, loadAX, andA, oraA, eorA, bitTest, adcA, sbcA, cmpA, cmpX, cmpY]

/-- What an increment, a decrement or a composite of one does with the new byte. -/
def modifyUses : List (Byte → State → State) := [setNZ, cmpA, sbcA]

/-- What a shift, a rotate or a composite of one does with the new byte. -/
def shiftUses : List (Byte → State → State) := [setNZ, oraA, andA, eorA, adcA]

/-- What the one-byte instructions without a bus access do. -/
def registerUses (s : State) : List (State → State) :=
  [loadX s.a, loadY s.a, loadA s.x, loadA s.y, loadX s.sp, setSpFromX, loadX (s.x + 1), loadY (s.y + 1), loadX (s.x - 1),
   loadY (s.y - 1), setC false, setC true, setI false, setI true, setD false, setD true, setV false, id]

/-- The next states of an instruction run from `s`. -/
inductive Ends (s : State) : State → Prop where
  | reading (o : ReadOperand) (base : Nat) (use : Byte → State → State) (hlo : 2 ≤ base) (hhi : base ≤ 6) (h : use ∈ readUses) :
      Ends s (advance (readLength o) (base + pageCycle o s) (use (readValue o s) (afterLoad o s)))
  | storing (m : MemMode) (base : Nat) (b : Byte) (hlo : 3 ≤ base) (hhi : base ≤ 6) :
      Ends s (advance (memLength m) base (busWrite (effAddr m s) b (afterPointer m s)))
  | modifying (o : RmwOperand) (base : Nat) (change : Byte → Byte) (use : Byte → State → State) (hlo : 2 ≤ base) (hhi : base ≤ 8)
      (h : use ∈ modifyUses) :
      Ends s (advance (rmwLength o) base (use (change (rmwValue o s)) (rmwStore o (change (rmwValue o s)) s)))
  | shifting (o : RmwOperand) (base : Nat) (shift : Byte → Bool → Byte × Bool) (use : Byte → State → State) (hlo : 2 ≤ base)
      (hhi : base ≤ 8) (h : use ∈ shiftUses) :
      Ends s (advance (rmwLength o) base
        (use (shift (rmwValue o s) s.c).1 (setC (shift (rmwValue o s) s.c).2 (rmwStore o (shift (rmwValue o s) s.c).1 s))))
  | registers (use : State → State) (h : use ∈ registerUses s) : Ends s (advance 1 2 (use s))
  | pushing (b : Byte) : Ends s (advance 1 3 (push b s))
  | pullingA : Ends s (advance 1 4 (pullA s))
  | pullingP : Ends s (advance 1 4 (pullP s))
  | jumping (target : Addr) (k : Nat) (hlo : 2 ≤ k) (hhi : k ≤ 4) : Ends s (jumpTo target k s)
  | indirect (a16 : Addr) : Ends s (jumpTo (indPointer a16 s) 5 (afterRead (indHighAddr a16) (afterRead a16 s)))
  | calling (a16 : Addr) : Ends s (jumpTo a16 6 (pushReturn s))
  | returning : Ends s (jumpTo (cat (pullByte (afterPull s)) (pullByte s) + 1) 6 (afterPull (afterPull s)))
  | breaking : Ends s (takeException (s.pc + 2) true vecIrq s)
  | restoring : Ends s (returnFromException s)

/-- A branch jumps, taken or not. -/
theorem branch_ends (cond : Bool) (d8 : Byte) (s : State) : ∃ t, branchOp cond d8 s = .next t ∧ Ends s t := by
  refine ⟨_, rfl, ?_⟩
  split
  · refine .jumping _ _ ?_ ?_ <;> unfold takenCycles <;> split <;> decide
  · exact .jumping _ _ (by decide) (by decide)

theorem incOp_ends (m : MemMode) (base : Nat) (hlo : 2 ≤ base) (hhi : base ≤ 8) (s : State) :
    ∃ t, incOp m base s = .next t ∧ Ends s t :=
  ⟨_, rfl, .modifying (.mem m) base (fun b => b + 1) setNZ hlo hhi (by simp [modifyUses])⟩

theorem decOp_ends (m : MemMode) (base : Nat) (hlo : 2 ≤ base) (hhi : base ≤ 8) (s : State) :
    ∃ t, decOp m base s = .next t ∧ Ends s t :=
  ⟨_, rfl, .modifying (.mem m) base (fun b => b - 1) setNZ hlo hhi (by simp [modifyUses])⟩

theorem aslOp_ends (o : RmwOperand) (base : Nat) (hlo : 2 ≤ base) (hhi : base ≤ 8) (s : State) :
    ∃ t, aslOp o base s = .next t ∧ Ends s t :=
  ⟨_, rfl, .shifting o base shiftLeft setNZ hlo hhi (by simp [shiftUses])⟩

theorem lsrOp_ends (o : RmwOperand) (base : Nat) (hlo : 2 ≤ base) (hhi : base ≤ 8) (s : State) :
    ∃ t, lsrOp o base s = .next t ∧ Ends s t :=
  ⟨_, rfl, .shifting o base shiftRight setNZ hlo hhi (by simp [shiftUses])⟩

theorem rolOp_ends (o : RmwOperand) (base : Nat) (hlo : 2 ≤ base) (hhi : base ≤ 8) (s : State) :
    ∃ t, rolOp o base s = .next t ∧ Ends s t :=
  ⟨_, rfl, .shifting o base rotateLeft setNZ hlo hhi (by simp [shiftUses])⟩

theorem rorOp_ends (o : RmwOperand) (base : Nat) (hlo : 2 ≤ base) (hhi : base ≤ 8) (s : State) :
    ∃ t, rorOp o base s = .next t ∧ Ends s t :=
  ⟨_, rfl, .shifting o base rotateRight setNZ hlo hhi (by simp [shiftUses])⟩

theorem dcpOp_ends (m : MemMode) (base : Nat) (hlo : 2 ≤ base) (hhi : base ≤ 8) (s : State) :
    ∃ t, dcpOp m base s = .next t ∧ Ends s t :=
  ⟨_, rfl, .modifying (.mem m) base (fun b => b - 1) cmpA hlo hhi (by simp [modifyUses])⟩

theorem iscOp_ends (m : MemMode) (base : Nat) (hlo : 2 ≤ base) (hhi : base ≤ 8) (s : State) :
    ∃ t, iscOp m base s = .next t ∧ Ends s t :=
  ⟨_, rfl, .modifying (.mem m) base (fun b => b + 1) sbcA hlo hhi (by simp [modifyUses])⟩

theorem sloOp_ends (m : MemMode) (base : Nat) (hlo : 2 ≤ base) (hhi : base ≤ 8) (s : State) :
    ∃ t, sloOp m base s = .next t ∧ Ends s t :=
  ⟨_, rfl, .shifting (.mem m) base shiftLeft oraA hlo hhi (by simp [shiftUses])⟩

theorem rlaOp_ends (m : MemMode) (base : Nat) (hlo : 2 ≤ base) (hhi : base ≤ 8) (s : State) :
    ∃ t, rlaOp m base s = .next t ∧ Ends s t :=
  ⟨_, rfl, .shifting (.mem m) base rotateLeft andA hlo hhi (by simp [shiftUses])⟩

theorem sreOp_ends (m : MemMode) (base : Nat) (hlo : 2 ≤ base) (hhi : base ≤ 8) (s : State) :
    ∃ t, sreOp m base s = .next t ∧ Ends s t :=
  ⟨_, rfl, .shifting (.mem m) base shiftRight eorA hlo hhi (by simp [shiftUses])⟩

theorem rraOp_ends (m : MemMode) (base : Nat) (hlo : 2 ≤ base) (hhi : base ≤ 8) (s : State) :
    ∃ t, rraOp m base s = .next t ∧ Ends s t :=
  ⟨_, rfl, .shifting (.mem m) base rotateRight adcA hlo hhi (by simp [shiftUses])⟩

/-- Every instruction answers a next state, one of those listed. -/
theorem exec_ends (i : Instr) (s : State) : ∃ t, exec i s = .next t ∧ Ends s t :=
  match i with
  | .ldaIzx _ | .ldaZp _ | .ldaImm _ | .ldaAbs _ | .ldaIzy _ | .ldaZpx _ | .ldaAby _ | .ldaAbx _ | .ldxImm _ | .ldxZp _ | .ldxAbs _
  | .ldxZpy _ | .ldxAby _ | .ldyImm _ | .ldyZp _ | .ldyAbs _ | .ldyZpx _ | .ldyAbx _ | .andIzx _ | .andZp _ | .andImm _ | .andAbs _
  | .andIzy _ | .andZpx _ | .andAby _ | .andAbx _ | .oraIzx _ | .oraZp _ | .oraImm _ | .oraAbs _ | .oraIzy _ | .oraZpx _ | .oraAby _
  | .oraAbx _ | .eorIzx _ | .eorZp _ | .eorImm _ | .eorAbs _ | .eorIzy _ | .eorZpx _ | .eorAby _ | .eorAbx _ | .bitZp _ | .bitAbs _
  | .adcIzx _ | .adcZp _ | .adcImm _ | .adcAbs _ | .adcIzy _ | .adcZpx _ | .adcAby _ | .adcAbx _ | .sbcIzx _ | .sbcZp _ | .sbcImm _
  | .sbcAbs _ | .sbcIzy _ | .sbcZpx _ | .sbcAby _ | .sbcAbx _ | .cmpIzx _ | .cmpZp _ | .cmpImm _ | .cmpAbs _ | .cmpIzy _ | .cmpZpx _
  | .cmpAby _ | .cmpAbx _ | .cpxImm _ | .cpxZp _ | .cpxAbs _ | .cpyImm _ | .cpyZp _ | .cpyAbs _ | .laxZp _ | .laxZpy _ | .laxAbs _
  | .laxAby _ | .laxIzx _ | .laxIzy _ =>
    ⟨_, rfl, .reading _ _ _ (by decide) (by decide) (by simp [readUses])⟩
  | .staIzx _ | .staZp _ | .staAbs _ | .staIzy _ | .staZpx _ | .staAby _ | .staAbx _ | .stxZp _ | .stxAbs _ | .stxZpy _ | .styZp _
  | .styAbs _ | .styZpx _ | .saxZp _ | .saxZpy _ | .saxAbs _ | .saxIzx _ =>
    ⟨_, rfl, .storing _ _ _ (by decide) (by decide)⟩
  | .tax | .tay | .txa | .tya | .tsx | .txs | .inx | .iny | .dex | .dey | .clc | .sec | .cli | .sei | .cld | .sed | .clv | .nop =>
    ⟨_, rfl, .registers _ (by simp [registerUses])⟩
  | .pha | .php =>
    ⟨_, rfl, .pushing _⟩
  | .pla =>
    ⟨_, rfl, .pullingA⟩
  | .plp =>
    ⟨_, rfl, .pullingP⟩
  | .incZp _ | .incAbs _ | .incZpx _ | .incAbx _ =>
    incOp_ends _ _ (by decide) (by decide) s
  | .decZp _ | .decAbs _ | .decZpx _ | .decAbx _ =>
    decOp_ends _ _ (by decide) (by decide) s
  | .aslZp _ | .aslAbs _ | .aslZpx _ | .aslAbx _ =>
    aslOp_ends _ _ (by decide) (by decide) s
  | .aslAcc =>
    aslOp_ends _ _ (by decide) (by decide) s
  | .lsrZp _ | .lsrAbs _ | .lsrZpx _ | .lsrAbx _ =>
    lsrOp_ends _ _ (by decide) (by decide) s
  | .lsrAcc =>
    lsrOp_ends _ _ (by decide) (by decide) s
  | .rolZp _ | .rolAbs _ | .rolZpx _ | .rolAbx _ =>
    rolOp_ends _ _ (by decide) (by decide) s
  | .rolAcc =>
    rolOp_ends _ _ (by decide) (by decide) s
  | .rorZp _ | .rorAbs _ | .rorZpx _ | .rorAbx _ =>
    rorOp_ends _ _ (by decide) (by decide) s
  | .rorAcc =>
    rorOp_ends _ _ (by decide) (by decide) s
  | .jmpAbs _ =>
    ⟨_, rfl, .jumping _ _ (by decide) (by decide)⟩
  | .jmpInd _ =>
    ⟨_, rfl, .indirect _⟩
  | .jsr _ =>
    ⟨_, rfl, .calling _⟩
  | .rts =>
    ⟨_, rfl, .returning⟩
  | .bcc _ | .bcs _ | .beq _ | .bne _ | .bmi _ | .bpl _ | .bvc _ | .bvs _ =>
    branch_ends _ _ s
  | .brk =>
    ⟨_, rfl, .breaking⟩
  | .rti =>
    ⟨_, rfl, .restoring⟩
  | .dcpZp _ | .dcpZpx _ | .dcpAbs _ | .dcpAbx _ | .dcpAby _ | .dcpIzx _ | .dcpIzy _ =>
    dcpOp_ends _ _ (by decide) (by decide) s
  | .iscZp _ | .iscZpx _ | .iscAbs _ | .iscAbx _ | .iscAby _ | .iscIzx _ | .iscIzy _ =>
    iscOp_ends _ _ (by decide) (by decide) s
  | .sloZp _ | .sloZpx _ | .sloAbs _ | .sloAbx _ | .sloAby _ | .sloIzx _ | .sloIzy _ =>
    sloOp_ends _ _ (by decide) (by decide) s
  | .rlaZp _ | .rlaZpx _ | .rlaAbs _ | .rlaAbx _ | .rlaAby _ | .rlaIzx _ | .rlaIzy _ =>
    rlaOp_ends _ _ (by decide) (by decide) s
  | .sreZp _ | .sreZpx _ | .sreAbs _ | .sreAbx _ | .sreAby _ | .sreIzx _ | .sreIzy _ =>
    sreOp_ends _ _ (by decide) (by decide) s
  | .rraZp _ | .rraZpx _ | .rraAbs _ | .rraAbx _ | .rraAby _ | .rraIzx _ | .rraIzy _ =>
    rraOp_ends _ _ (by decide) (by decide) s

/-- The next state an instruction answers is one of those listed. -/
theorem ends_of_exec {i : Instr} {s t : State} (h : exec i s = .next t) : Ends s t := by
  obtain ⟨u, hu, he⟩ := exec_ends i s
  rw [hu] at h
  cases h
  exact he

end Sys2Proof.Machine
end

