-- ==== Sys2Proof/Laws/Host.lean ====
section
/-! SUPPORT. What a turn, a host step and a run can answer, each said once. -/

namespace Sys2Proof.Machine

/-- A turn that answers a next state is a step between the two lists of environment actions. -/
theorem takeTurn_next_iff (e : EnvTurn) (s t : State) :
    takeTurn e s = .next t ↔ ∃ u, step (environments e.before s) = .next u ∧ environments e.after u = t := by
  unfold takeTurn
  cases step (environments e.before s) <;> simp

/-- The host's step reports cycles exactly where the step answers a next state without a fault. -/
theorem hostStep_consumed_iff (s t : State) (n : Nat) :
    hostStep s = (.consumed n, t) ↔ step s = .next t ∧ t.fault = none ∧ n = t.cycles - s.cycles := by
  unfold hostStep
  cases h : step s with
  | next u => cases hf : u.fault <;> grind
  | fault r => cases r; simp
  | refused r => simp

/-- The equation of `runUntil`, for every schedule. -/
theorem runUntil_eq (pred : State → Bool) (breakpoints : List Addr) (schedule : List EnvTurn) (first : Bool) (s : State) :
    runUntil pred breakpoints schedule first s =
      match s.fault with
      | some (op, pc) => (.error op pc, s)
      | none =>
        if pred s then (.stopped, s)
        else if breakpoints.contains s.pc && !first then (.breakpoint s.pc, s)
        else match schedule with
          | [] => (.sliceEnd, s)
          | e :: rest =>
            match takeTurn e s with
            | .next t => runUntil pred breakpoints rest false t
            | .fault (.fatalDecode op pc) => (.error op pc, environments e.before s)
            | .refused why => (.refused why, environments e.before s) := by
  cases schedule with
  | nil => unfold runUntil; cases s.fault <;> rfl
  | cons e rest =>
    conv => lhs; unfold runUntil
    all_goals
      cases s.fault with
      | some f => rfl
      | none =>
        dsimp only
        split
        · rfl
        split
        · rfl
        cases takeTurn e s with
        | next t => rfl
        | fault r => cases r; rfl
        | refused r => rfl

end Sys2Proof.Machine
end

