-- ==== Sys2Proof/Laws/PerInstr.lean ====
section
/-! SUPPORT. Statements about every instruction as syntax, proved instruction by instruction. -/

namespace Sys2Proof.Laws.OpcodeFixesLength

/-- The opcode byte alone fixes the length (30_encoding.md R91): of an instruction that is in the table, the opcode says how many operand
bytes follow. -/
def Statement (i : Instr) : Prop :=
  ∀ u, i.wellFormed u = true → ∃ op operands, encode i = op :: operands ∧ operandCount u op = operands.length

theorem ldaIzx (d8 : Byte) : Statement (.ldaIzx d8) := fun
  | .none, _ => ⟨_, _, rfl, rfl⟩
  | .common, _ => ⟨_, _, rfl, rfl⟩

theorem ldaZp (d8 : Byte) : Statement (.ldaZp d8) := fun
  | .none, _ => ⟨_, _, rfl, rfl⟩
  | .common, _ => ⟨_, _, rfl, rfl⟩

theorem ldaImm (d8 : Byte) : Statement (.ldaImm d8) := fun
  | .none, _ => ⟨_, _, rfl, rfl⟩
  | .common, _ => ⟨_, _, rfl, rfl⟩

theorem ldaAbs (a16 : Addr) : Statement (.ldaAbs a16) := fun
  | .none, _ => ⟨_, _, rfl, rfl⟩
  | .common, _ => ⟨_, _, rfl, rfl⟩

theorem ldaIzy (d8 : Byte) : Statement (.ldaIzy d8) := fun
  | .none, _ => ⟨_, _, rfl, rfl⟩
  | .common, _ => ⟨_, _, rfl, rfl⟩

theorem ldaZpx (d8 : Byte) : Statement (.ldaZpx d8) := fun
  | .none, _ => ⟨_, _, rfl, rfl⟩
  | .common, _ => ⟨_, _, rfl, rfl⟩

theorem ldaAby (a16 : Addr) : Statement (.ldaAby a16) := fun
  | .none, _ => ⟨_, _, rfl, rfl⟩
  | .common, _ => ⟨_, _, rfl, rfl⟩

theorem ldaAbx (a16 : Addr) : Statement (.ldaAbx a16) := fun
  | .none, _ => ⟨_, _, rfl, rfl⟩
  | .common, _ => ⟨_, _, rfl, rfl⟩

theorem ldxImm (d8 : Byte) : Statement (.ldxImm d8) := fun
  | .none, _ => ⟨_, _, rfl, rfl⟩
  | .common, _ => ⟨_, _, rfl, rfl⟩

theorem ldxZp (d8 : Byte) : Statement (.ldxZp d8) := fun
  | .none, _ => ⟨_, _, rfl, rfl⟩
  | .common, _ => ⟨_, _, rfl, rfl⟩

theorem ldxAbs (a16 : Addr) : Statement (.ldxAbs a16) := fun
  | .none, _ => ⟨_, _, rfl, rfl⟩
  | .common, _ => ⟨_, _, rfl, rfl⟩

theorem ldxZpy (d8 : Byte) : Statement (.ldxZpy d8) := fun
  | .none, _ => ⟨_, _, rfl, rfl⟩
  | .common, _ => ⟨_, _, rfl, rfl⟩

theorem ldxAby (a16 : Addr) : Statement (.ldxAby a16) := fun
  | .none, _ => ⟨_, _, rfl, rfl⟩
  | .common, _ => ⟨_, _, rfl, rfl⟩

theorem ldyImm (d8 : Byte) : Statement (.ldyImm d8) := fun
  | .none, _ => ⟨_, _, rfl, rfl⟩
  | .common, _ => ⟨_, _, rfl, rfl⟩

theorem ldyZp (d8 : Byte) : Statement (.ldyZp d8) := fun
  | .none, _ => ⟨_, _, rfl, rfl⟩
  | .common, _ => ⟨_, _, rfl, rfl⟩

theorem ldyAbs (a16 : Addr) : Statement (.ldyAbs a16) := fun
  | .none, _ => ⟨_, _, rfl, rfl⟩
  | .common, _ => ⟨_, _, rfl, rfl⟩

theorem ldyZpx (d8 : Byte) : Statement (.ldyZpx d8) := fun
  | .none, _ => ⟨_, _, rfl, rfl⟩
  | .common, _ => ⟨_, _, rfl, rfl⟩

theorem ldyAbx (a16 : Addr) : Statement (.ldyAbx a16) := fun
  | .none, _ => ⟨_, _, rfl, rfl⟩
  | .common, _ => ⟨_, _, rfl, rfl⟩

theorem staIzx (d8 : Byte) : Statement (.staIzx d8) := fun
  | .none, _ => ⟨_, _, rfl, rfl⟩
  | .common, _ => ⟨_, _, rfl, rfl⟩

theorem staZp (d8 : Byte) : Statement (.staZp d8) := fun
  | .none, _ => ⟨_, _, rfl, rfl⟩
  | .common, _ => ⟨_, _, rfl, rfl⟩

theorem staAbs (a16 : Addr) : Statement (.staAbs a16) := fun
  | .none, _ => ⟨_, _, rfl, rfl⟩
  | .common, _ => ⟨_, _, rfl, rfl⟩

theorem staIzy (d8 : Byte) : Statement (.staIzy d8) := fun
  | .none, _ => ⟨_, _, rfl, rfl⟩
  | .common, _ => ⟨_, _, rfl, rfl⟩

theorem staZpx (d8 : Byte) : Statement (.staZpx d8) := fun
  | .none, _ => ⟨_, _, rfl, rfl⟩
  | .common, _ => ⟨_, _, rfl, rfl⟩

theorem staAby (a16 : Addr) : Statement (.staAby a16) := fun
  | .none, _ => ⟨_, _, rfl, rfl⟩
  | .common, _ => ⟨_, _, rfl, rfl⟩

theorem staAbx (a16 : Addr) : Statement (.staAbx a16) := fun
  | .none, _ => ⟨_, _, rfl, rfl⟩
  | .common, _ => ⟨_, _, rfl, rfl⟩

theorem stxZp (d8 : Byte) : Statement (.stxZp d8) := fun
  | .none, _ => ⟨_, _, rfl, rfl⟩
  | .common, _ => ⟨_, _, rfl, rfl⟩

theorem stxAbs (a16 : Addr) : Statement (.stxAbs a16) := fun
  | .none, _ => ⟨_, _, rfl, rfl⟩
  | .common, _ => ⟨_, _, rfl, rfl⟩

theorem stxZpy (d8 : Byte) : Statement (.stxZpy d8) := fun
  | .none, _ => ⟨_, _, rfl, rfl⟩
  | .common, _ => ⟨_, _, rfl, rfl⟩

theorem styZp (d8 : Byte) : Statement (.styZp d8) := fun
  | .none, _ => ⟨_, _, rfl, rfl⟩
  | .common, _ => ⟨_, _, rfl, rfl⟩

theorem styAbs (a16 : Addr) : Statement (.styAbs a16) := fun
  | .none, _ => ⟨_, _, rfl, rfl⟩
  | .common, _ => ⟨_, _, rfl, rfl⟩

theorem styZpx (d8 : Byte) : Statement (.styZpx d8) := fun
  | .none, _ => ⟨_, _, rfl, rfl⟩
  | .common, _ => ⟨_, _, rfl, rfl⟩

theorem tax : Statement .tax := fun
  | .none, _ => ⟨_, _, rfl, rfl⟩
  | .common, _ => ⟨_, _, rfl, rfl⟩

theorem tay : Statement .tay := fun
  | .none, _ => ⟨_, _, rfl, rfl⟩
  | .common, _ => ⟨_, _, rfl, rfl⟩

theorem txa : Statement .txa := fun
  | .none, _ => ⟨_, _, rfl, rfl⟩
  | .common, _ => ⟨_, _, rfl, rfl⟩

theorem tya : Statement .tya := fun
  | .none, _ => ⟨_, _, rfl, rfl⟩
  | .common, _ => ⟨_, _, rfl, rfl⟩

theorem tsx : Statement .tsx := fun
  | .none, _ => ⟨_, _, rfl, rfl⟩
  | .common, _ => ⟨_, _, rfl, rfl⟩

theorem txs : Statement .txs := fun
  | .none, _ => ⟨_, _, rfl, rfl⟩
  | .common, _ => ⟨_, _, rfl, rfl⟩

theorem pha : Statement .pha := fun
  | .none, _ => ⟨_, _, rfl, rfl⟩
  | .common, _ => ⟨_, _, rfl, rfl⟩

theorem php : Statement .php := fun
  | .none, _ => ⟨_, _, rfl, rfl⟩
  | .common, _ => ⟨_, _, rfl, rfl⟩

theorem pla : Statement .pla := fun
  | .none, _ => ⟨_, _, rfl, rfl⟩
  | .common, _ => ⟨_, _, rfl, rfl⟩

theorem plp : Statement .plp := fun
  | .none, _ => ⟨_, _, rfl, rfl⟩
  | .common, _ => ⟨_, _, rfl, rfl⟩

theorem andIzx (d8 : Byte) : Statement (.andIzx d8) := fun
  | .none, _ => ⟨_, _, rfl, rfl⟩
  | .common, _ => ⟨_, _, rfl, rfl⟩

theorem andZp (d8 : Byte) : Statement (.andZp d8) := fun
  | .none, _ => ⟨_, _, rfl, rfl⟩
  | .common, _ => ⟨_, _, rfl, rfl⟩

theorem andImm (d8 : Byte) : Statement (.andImm d8) := fun
  | .none, _ => ⟨_, _, rfl, rfl⟩
  | .common, _ => ⟨_, _, rfl, rfl⟩

theorem andAbs (a16 : Addr) : Statement (.andAbs a16) := fun
  | .none, _ => ⟨_, _, rfl, rfl⟩
  | .common, _ => ⟨_, _, rfl, rfl⟩

theorem andIzy (d8 : Byte) : Statement (.andIzy d8) := fun
  | .none, _ => ⟨_, _, rfl, rfl⟩
  | .common, _ => ⟨_, _, rfl, rfl⟩

theorem andZpx (d8 : Byte) : Statement (.andZpx d8) := fun
  | .none, _ => ⟨_, _, rfl, rfl⟩
  | .common, _ => ⟨_, _, rfl, rfl⟩

theorem andAby (a16 : Addr) : Statement (.andAby a16) := fun
  | .none, _ => ⟨_, _, rfl, rfl⟩
  | .common, _ => ⟨_, _, rfl, rfl⟩

theorem andAbx (a16 : Addr) : Statement (.andAbx a16) := fun
  | .none, _ => ⟨_, _, rfl, rfl⟩
  | .common, _ => ⟨_, _, rfl, rfl⟩

theorem oraIzx (d8 : Byte) : Statement (.oraIzx d8) := fun
  | .none, _ => ⟨_, _, rfl, rfl⟩
  | .common, _ => ⟨_, _, rfl, rfl⟩

theorem oraZp (d8 : Byte) : Statement (.oraZp d8) := fun
  | .none, _ => ⟨_, _, rfl, rfl⟩
  | .common, _ => ⟨_, _, rfl, rfl⟩

theorem oraImm (d8 : Byte) : Statement (.oraImm d8) := fun
  | .none, _ => ⟨_, _, rfl, rfl⟩
  | .common, _ => ⟨_, _, rfl, rfl⟩

theorem oraAbs (a16 : Addr) : Statement (.oraAbs a16) := fun
  | .none, _ => ⟨_, _, rfl, rfl⟩
  | .common, _ => ⟨_, _, rfl, rfl⟩

theorem oraIzy (d8 : Byte) : Statement (.oraIzy d8) := fun
  | .none, _ => ⟨_, _, rfl, rfl⟩
  | .common, _ => ⟨_, _, rfl, rfl⟩

theorem oraZpx (d8 : Byte) : Statement (.oraZpx d8) := fun
  | .none, _ => ⟨_, _, rfl, rfl⟩
  | .common, _ => ⟨_, _, rfl, rfl⟩

theorem oraAby (a16 : Addr) : Statement (.oraAby a16) := fun
  | .none, _ => ⟨_, _, rfl, rfl⟩
  | .common, _ => ⟨_, _, rfl, rfl⟩

theorem oraAbx (a16 : Addr) : Statement (.oraAbx a16) := fun
  | .none, _ => ⟨_, _, rfl, rfl⟩
  | .common, _ => ⟨_, _, rfl, rfl⟩

theorem eorIzx (d8 : Byte) : Statement (.eorIzx d8) := fun
  | .none, _ => ⟨_, _, rfl, rfl⟩
  | .common, _ => ⟨_, _, rfl, rfl⟩

theorem eorZp (d8 : Byte) : Statement (.eorZp d8) := fun
  | .none, _ => ⟨_, _, rfl, rfl⟩
  | .common, _ => ⟨_, _, rfl, rfl⟩

theorem eorImm (d8 : Byte) : Statement (.eorImm d8) := fun
  | .none, _ => ⟨_, _, rfl, rfl⟩
  | .common, _ => ⟨_, _, rfl, rfl⟩

theorem eorAbs (a16 : Addr) : Statement (.eorAbs a16) := fun
  | .none, _ => ⟨_, _, rfl, rfl⟩
  | .common, _ => ⟨_, _, rfl, rfl⟩

theorem eorIzy (d8 : Byte) : Statement (.eorIzy d8) := fun
  | .none, _ => ⟨_, _, rfl, rfl⟩
  | .common, _ => ⟨_, _, rfl, rfl⟩

theorem eorZpx (d8 : Byte) : Statement (.eorZpx d8) := fun
  | .none, _ => ⟨_, _, rfl, rfl⟩
  | .common, _ => ⟨_, _, rfl, rfl⟩

theorem eorAby (a16 : Addr) : Statement (.eorAby a16) := fun
  | .none, _ => ⟨_, _, rfl, rfl⟩
  | .common, _ => ⟨_, _, rfl, rfl⟩

theorem eorAbx (a16 : Addr) : Statement (.eorAbx a16) := fun
  | .none, _ => ⟨_, _, rfl, rfl⟩
  | .common, _ => ⟨_, _, rfl, rfl⟩

theorem bitZp (d8 : Byte) : Statement (.bitZp d8) := fun
  | .none, _ => ⟨_, _, rfl, rfl⟩
  | .common, _ => ⟨_, _, rfl, rfl⟩

theorem bitAbs (a16 : Addr) : Statement (.bitAbs a16) := fun
  | .none, _ => ⟨_, _, rfl, rfl⟩
  | .common, _ => ⟨_, _, rfl, rfl⟩

theorem adcIzx (d8 : Byte) : Statement (.adcIzx d8) := fun
  | .none, _ => ⟨_, _, rfl, rfl⟩
  | .common, _ => ⟨_, _, rfl, rfl⟩

theorem adcZp (d8 : Byte) : Statement (.adcZp d8) := fun
  | .none, _ => ⟨_, _, rfl, rfl⟩
  | .common, _ => ⟨_, _, rfl, rfl⟩

theorem adcImm (d8 : Byte) : Statement (.adcImm d8) := fun
  | .none, _ => ⟨_, _, rfl, rfl⟩
  | .common, _ => ⟨_, _, rfl, rfl⟩

theorem adcAbs (a16 : Addr) : Statement (.adcAbs a16) := fun
  | .none, _ => ⟨_, _, rfl, rfl⟩
  | .common, _ => ⟨_, _, rfl, rfl⟩

theorem adcIzy (d8 : Byte) : Statement (.adcIzy d8) := fun
  | .none, _ => ⟨_, _, rfl, rfl⟩
  | .common, _ => ⟨_, _, rfl, rfl⟩

theorem adcZpx (d8 : Byte) : Statement (.adcZpx d8) := fun
  | .none, _ => ⟨_, _, rfl, rfl⟩
  | .common, _ => ⟨_, _, rfl, rfl⟩

theorem adcAby (a16 : Addr) : Statement (.adcAby a16) := fun
  | .none, _ => ⟨_, _, rfl, rfl⟩
  | .common, _ => ⟨_, _, rfl, rfl⟩

theorem adcAbx (a16 : Addr) : Statement (.adcAbx a16) := fun
  | .none, _ => ⟨_, _, rfl, rfl⟩
  | .common, _ => ⟨_, _, rfl, rfl⟩

theorem sbcIzx (d8 : Byte) : Statement (.sbcIzx d8) := fun
  | .none, _ => ⟨_, _, rfl, rfl⟩
  | .common, _ => ⟨_, _, rfl, rfl⟩

theorem sbcZp (d8 : Byte) : Statement (.sbcZp d8) := fun
  | .none, _ => ⟨_, _, rfl, rfl⟩
  | .common, _ => ⟨_, _, rfl, rfl⟩

theorem sbcImm (d8 : Byte) : Statement (.sbcImm d8) := fun
  | .none, _ => ⟨_, _, rfl, rfl⟩
  | .common, _ => ⟨_, _, rfl, rfl⟩

theorem sbcAbs (a16 : Addr) : Statement (.sbcAbs a16) := fun
  | .none, _ => ⟨_, _, rfl, rfl⟩
  | .common, _ => ⟨_, _, rfl, rfl⟩

theorem sbcIzy (d8 : Byte) : Statement (.sbcIzy d8) := fun
  | .none, _ => ⟨_, _, rfl, rfl⟩
  | .common, _ => ⟨_, _, rfl, rfl⟩

theorem sbcZpx (d8 : Byte) : Statement (.sbcZpx d8) := fun
  | .none, _ => ⟨_, _, rfl, rfl⟩
  | .common, _ => ⟨_, _, rfl, rfl⟩

theorem sbcAby (a16 : Addr) : Statement (.sbcAby a16) := fun
  | .none, _ => ⟨_, _, rfl, rfl⟩
  | .common, _ => ⟨_, _, rfl, rfl⟩

theorem sbcAbx (a16 : Addr) : Statement (.sbcAbx a16) := fun
  | .none, _ => ⟨_, _, rfl, rfl⟩
  | .common, _ => ⟨_, _, rfl, rfl⟩

theorem cmpIzx (d8 : Byte) : Statement (.cmpIzx d8) := fun
  | .none, _ => ⟨_, _, rfl, rfl⟩
  | .common, _ => ⟨_, _, rfl, rfl⟩

theorem cmpZp (d8 : Byte) : Statement (.cmpZp d8) := fun
  | .none, _ => ⟨_, _, rfl, rfl⟩
  | .common, _ => ⟨_, _, rfl, rfl⟩

theorem cmpImm (d8 : Byte) : Statement (.cmpImm d8) := fun
  | .none, _ => ⟨_, _, rfl, rfl⟩
  | .common, _ => ⟨_, _, rfl, rfl⟩

theorem cmpAbs (a16 : Addr) : Statement (.cmpAbs a16) := fun
  | .none, _ => ⟨_, _, rfl, rfl⟩
  | .common, _ => ⟨_, _, rfl, rfl⟩

theorem cmpIzy (d8 : Byte) : Statement (.cmpIzy d8) := fun
  | .none, _ => ⟨_, _, rfl, rfl⟩
  | .common, _ => ⟨_, _, rfl, rfl⟩

theorem cmpZpx (d8 : Byte) : Statement (.cmpZpx d8) := fun
  | .none, _ => ⟨_, _, rfl, rfl⟩
  | .common, _ => ⟨_, _, rfl, rfl⟩

theorem cmpAby (a16 : Addr) : Statement (.cmpAby a16) := fun
  | .none, _ => ⟨_, _, rfl, rfl⟩
  | .common, _ => ⟨_, _, rfl, rfl⟩

theorem cmpAbx (a16 : Addr) : Statement (.cmpAbx a16) := fun
  | .none, _ => ⟨_, _, rfl, rfl⟩
  | .common, _ => ⟨_, _, rfl, rfl⟩

theorem cpxImm (d8 : Byte) : Statement (.cpxImm d8) := fun
  | .none, _ => ⟨_, _, rfl, rfl⟩
  | .common, _ => ⟨_, _, rfl, rfl⟩

theorem cpxZp (d8 : Byte) : Statement (.cpxZp d8) := fun
  | .none, _ => ⟨_, _, rfl, rfl⟩
  | .common, _ => ⟨_, _, rfl, rfl⟩

theorem cpxAbs (a16 : Addr) : Statement (.cpxAbs a16) := fun
  | .none, _ => ⟨_, _, rfl, rfl⟩
  | .common, _ => ⟨_, _, rfl, rfl⟩

theorem cpyImm (d8 : Byte) : Statement (.cpyImm d8) := fun
  | .none, _ => ⟨_, _, rfl, rfl⟩
  | .common, _ => ⟨_, _, rfl, rfl⟩

theorem cpyZp (d8 : Byte) : Statement (.cpyZp d8) := fun
  | .none, _ => ⟨_, _, rfl, rfl⟩
  | .common, _ => ⟨_, _, rfl, rfl⟩

theorem cpyAbs (a16 : Addr) : Statement (.cpyAbs a16) := fun
  | .none, _ => ⟨_, _, rfl, rfl⟩
  | .common, _ => ⟨_, _, rfl, rfl⟩

theorem incZp (d8 : Byte) : Statement (.incZp d8) := fun
  | .none, _ => ⟨_, _, rfl, rfl⟩
  | .common, _ => ⟨_, _, rfl, rfl⟩

theorem incAbs (a16 : Addr) : Statement (.incAbs a16) := fun
  | .none, _ => ⟨_, _, rfl, rfl⟩
  | .common, _ => ⟨_, _, rfl, rfl⟩

theorem incZpx (d8 : Byte) : Statement (.incZpx d8) := fun
  | .none, _ => ⟨_, _, rfl, rfl⟩
  | .common, _ => ⟨_, _, rfl, rfl⟩

theorem incAbx (a16 : Addr) : Statement (.incAbx a16) := fun
  | .none, _ => ⟨_, _, rfl, rfl⟩
  | .common, _ => ⟨_, _, rfl, rfl⟩

theorem inx : Statement .inx := fun
  | .none, _ => ⟨_, _, rfl, rfl⟩
  | .common, _ => ⟨_, _, rfl, rfl⟩

theorem iny : Statement .iny := fun
  | .none, _ => ⟨_, _, rfl, rfl⟩
  | .common, _ => ⟨_, _, rfl, rfl⟩

theorem decZp (d8 : Byte) : Statement (.decZp d8) := fun
  | .none, _ => ⟨_, _, rfl, rfl⟩
  | .common, _ => ⟨_, _, rfl, rfl⟩

theorem decAbs (a16 : Addr) : Statement (.decAbs a16) := fun
  | .none, _ => ⟨_, _, rfl, rfl⟩
  | .common, _ => ⟨_, _, rfl, rfl⟩

theorem decZpx (d8 : Byte) : Statement (.decZpx d8) := fun
  | .none, _ => ⟨_, _, rfl, rfl⟩
  | .common, _ => ⟨_, _, rfl, rfl⟩

theorem decAbx (a16 : Addr) : Statement (.decAbx a16) := fun
  | .none, _ => ⟨_, _, rfl, rfl⟩
  | .common, _ => ⟨_, _, rfl, rfl⟩

theorem dex : Statement .dex := fun
  | .none, _ => ⟨_, _, rfl, rfl⟩
  | .common, _ => ⟨_, _, rfl, rfl⟩

theorem dey : Statement .dey := fun
  | .none, _ => ⟨_, _, rfl, rfl⟩
  | .common, _ => ⟨_, _, rfl, rfl⟩

theorem aslZp (d8 : Byte) : Statement (.aslZp d8) := fun
  | .none, _ => ⟨_, _, rfl, rfl⟩
  | .common, _ => ⟨_, _, rfl, rfl⟩

theorem aslAcc : Statement .aslAcc := fun
  | .none, _ => ⟨_, _, rfl, rfl⟩
  | .common, _ => ⟨_, _, rfl, rfl⟩

theorem aslAbs (a16 : Addr) : Statement (.aslAbs a16) := fun
  | .none, _ => ⟨_, _, rfl, rfl⟩
  | .common, _ => ⟨_, _, rfl, rfl⟩

theorem aslZpx (d8 : Byte) : Statement (.aslZpx d8) := fun
  | .none, _ => ⟨_, _, rfl, rfl⟩
  | .common, _ => ⟨_, _, rfl, rfl⟩

theorem aslAbx (a16 : Addr) : Statement (.aslAbx a16) := fun
  | .none, _ => ⟨_, _, rfl, rfl⟩
  | .common, _ => ⟨_, _, rfl, rfl⟩

theorem lsrZp (d8 : Byte) : Statement (.lsrZp d8) := fun
  | .none, _ => ⟨_, _, rfl, rfl⟩
  | .common, _ => ⟨_, _, rfl, rfl⟩

theorem lsrAcc : Statement .lsrAcc := fun
  | .none, _ => ⟨_, _, rfl, rfl⟩
  | .common, _ => ⟨_, _, rfl, rfl⟩

theorem lsrAbs (a16 : Addr) : Statement (.lsrAbs a16) := fun
  | .none, _ => ⟨_, _, rfl, rfl⟩
  | .common, _ => ⟨_, _, rfl, rfl⟩

theorem lsrZpx (d8 : Byte) : Statement (.lsrZpx d8) := fun
  | .none, _ => ⟨_, _, rfl, rfl⟩
  | .common, _ => ⟨_, _, rfl, rfl⟩

theorem lsrAbx (a16 : Addr) : Statement (.lsrAbx a16) := fun
  | .none, _ => ⟨_, _, rfl, rfl⟩
  | .common, _ => ⟨_, _, rfl, rfl⟩

theorem rolZp (d8 : Byte) : Statement (.rolZp d8) := fun
  | .none, _ => ⟨_, _, rfl, rfl⟩
  | .common, _ => ⟨_, _, rfl, rfl⟩

theorem rolAcc : Statement .rolAcc := fun
  | .none, _ => ⟨_, _, rfl, rfl⟩
  | .common, _ => ⟨_, _, rfl, rfl⟩

theorem rolAbs (a16 : Addr) : Statement (.rolAbs a16) := fun
  | .none, _ => ⟨_, _, rfl, rfl⟩
  | .common, _ => ⟨_, _, rfl, rfl⟩

theorem rolZpx (d8 : Byte) : Statement (.rolZpx d8) := fun
  | .none, _ => ⟨_, _, rfl, rfl⟩
  | .common, _ => ⟨_, _, rfl, rfl⟩

theorem rolAbx (a16 : Addr) : Statement (.rolAbx a16) := fun
  | .none, _ => ⟨_, _, rfl, rfl⟩
  | .common, _ => ⟨_, _, rfl, rfl⟩

theorem rorZp (d8 : Byte) : Statement (.rorZp d8) := fun
  | .none, _ => ⟨_, _, rfl, rfl⟩
  | .common, _ => ⟨_, _, rfl, rfl⟩

theorem rorAcc : Statement .rorAcc := fun
  | .none, _ => ⟨_, _, rfl, rfl⟩
  | .common, _ => ⟨_, _, rfl, rfl⟩

theorem rorAbs (a16 : Addr) : Statement (.rorAbs a16) := fun
  | .none, _ => ⟨_, _, rfl, rfl⟩
  | .common, _ => ⟨_, _, rfl, rfl⟩

theorem rorZpx (d8 : Byte) : Statement (.rorZpx d8) := fun
  | .none, _ => ⟨_, _, rfl, rfl⟩
  | .common, _ => ⟨_, _, rfl, rfl⟩

theorem rorAbx (a16 : Addr) : Statement (.rorAbx a16) := fun
  | .none, _ => ⟨_, _, rfl, rfl⟩
  | .common, _ => ⟨_, _, rfl, rfl⟩

theorem jmpAbs (a16 : Addr) : Statement (.jmpAbs a16) := fun
  | .none, _ => ⟨_, _, rfl, rfl⟩
  | .common, _ => ⟨_, _, rfl, rfl⟩

theorem jmpInd (a16 : Addr) : Statement (.jmpInd a16) := fun
  | .none, _ => ⟨_, _, rfl, rfl⟩
  | .common, _ => ⟨_, _, rfl, rfl⟩

theorem jsr (a16 : Addr) : Statement (.jsr a16) := fun
  | .none, _ => ⟨_, _, rfl, rfl⟩
  | .common, _ => ⟨_, _, rfl, rfl⟩

theorem rts : Statement .rts := fun
  | .none, _ => ⟨_, _, rfl, rfl⟩
  | .common, _ => ⟨_, _, rfl, rfl⟩

theorem bcc (d8 : Byte) : Statement (.bcc d8) := fun
  | .none, _ => ⟨_, _, rfl, rfl⟩
  | .common, _ => ⟨_, _, rfl, rfl⟩

theorem bcs (d8 : Byte) : Statement (.bcs d8) := fun
  | .none, _ => ⟨_, _, rfl, rfl⟩
  | .common, _ => ⟨_, _, rfl, rfl⟩

theorem beq (d8 : Byte) : Statement (.beq d8) := fun
  | .none, _ => ⟨_, _, rfl, rfl⟩
  | .common, _ => ⟨_, _, rfl, rfl⟩

theorem bne (d8 : Byte) : Statement (.bne d8) := fun
  | .none, _ => ⟨_, _, rfl, rfl⟩
  | .common, _ => ⟨_, _, rfl, rfl⟩

theorem bmi (d8 : Byte) : Statement (.bmi d8) := fun
  | .none, _ => ⟨_, _, rfl, rfl⟩
  | .common, _ => ⟨_, _, rfl, rfl⟩

theorem bpl (d8 : Byte) : Statement (.bpl d8) := fun
  | .none, _ => ⟨_, _, rfl, rfl⟩
  | .common, _ => ⟨_, _, rfl, rfl⟩

theorem bvc (d8 : Byte) : Statement (.bvc d8) := fun
  | .none, _ => ⟨_, _, rfl, rfl⟩
  | .common, _ => ⟨_, _, rfl, rfl⟩

theorem bvs (d8 : Byte) : Statement (.bvs d8) := fun
  | .none, _ => ⟨_, _, rfl, rfl⟩
  | .common, _ => ⟨_, _, rfl, rfl⟩

theorem clc : Statement .clc := fun
  | .none, _ => ⟨_, _, rfl, rfl⟩
  | .common, _ => ⟨_, _, rfl, rfl⟩

theorem sec : Statement .sec := fun
  | .none, _ => ⟨_, _, rfl, rfl⟩
  | .common, _ => ⟨_, _, rfl, rfl⟩

theorem cli : Statement .cli := fun
  | .none, _ => ⟨_, _, rfl, rfl⟩
  | .common, _ => ⟨_, _, rfl, rfl⟩

theorem sei : Statement .sei := fun
  | .none, _ => ⟨_, _, rfl, rfl⟩
  | .common, _ => ⟨_, _, rfl, rfl⟩

theorem cld : Statement .cld := fun
  | .none, _ => ⟨_, _, rfl, rfl⟩
  | .common, _ => ⟨_, _, rfl, rfl⟩

theorem sed : Statement .sed := fun
  | .none, _ => ⟨_, _, rfl, rfl⟩
  | .common, _ => ⟨_, _, rfl, rfl⟩

theorem clv : Statement .clv := fun
  | .none, _ => ⟨_, _, rfl, rfl⟩
  | .common, _ => ⟨_, _, rfl, rfl⟩

theorem nop : Statement .nop := fun
  | .none, _ => ⟨_, _, rfl, rfl⟩
  | .common, _ => ⟨_, _, rfl, rfl⟩

theorem brk : Statement .brk := fun
  | .none, _ => ⟨_, _, rfl, rfl⟩
  | .common, _ => ⟨_, _, rfl, rfl⟩

theorem rti : Statement .rti := fun
  | .none, _ => ⟨_, _, rfl, rfl⟩
  | .common, _ => ⟨_, _, rfl, rfl⟩

theorem laxZp (d8 : Byte) : Statement (.laxZp d8) := fun
  | .none, h => (Bool.false_ne_true h).elim
  | .common, _ => ⟨_, _, rfl, rfl⟩

theorem laxZpy (d8 : Byte) : Statement (.laxZpy d8) := fun
  | .none, h => (Bool.false_ne_true h).elim
  | .common, _ => ⟨_, _, rfl, rfl⟩

theorem laxAbs (a16 : Addr) : Statement (.laxAbs a16) := fun
  | .none, h => (Bool.false_ne_true h).elim
  | .common, _ => ⟨_, _, rfl, rfl⟩

theorem laxAby (a16 : Addr) : Statement (.laxAby a16) := fun
  | .none, h => (Bool.false_ne_true h).elim
  | .common, _ => ⟨_, _, rfl, rfl⟩

theorem laxIzx (d8 : Byte) : Statement (.laxIzx d8) := fun
  | .none, h => (Bool.false_ne_true h).elim
  | .common, _ => ⟨_, _, rfl, rfl⟩

theorem laxIzy (d8 : Byte) : Statement (.laxIzy d8) := fun
  | .none, h => (Bool.false_ne_true h).elim
  | .common, _ => ⟨_, _, rfl, rfl⟩

theorem saxZp (d8 : Byte) : Statement (.saxZp d8) := fun
  | .none, h => (Bool.false_ne_true h).elim
  | .common, _ => ⟨_, _, rfl, rfl⟩

theorem saxZpy (d8 : Byte) : Statement (.saxZpy d8) := fun
  | .none, h => (Bool.false_ne_true h).elim
  | .common, _ => ⟨_, _, rfl, rfl⟩

theorem saxAbs (a16 : Addr) : Statement (.saxAbs a16) := fun
  | .none, h => (Bool.false_ne_true h).elim
  | .common, _ => ⟨_, _, rfl, rfl⟩

theorem saxIzx (d8 : Byte) : Statement (.saxIzx d8) := fun
  | .none, h => (Bool.false_ne_true h).elim
  | .common, _ => ⟨_, _, rfl, rfl⟩

theorem dcpZp (d8 : Byte) : Statement (.dcpZp d8) := fun
  | .none, h => (Bool.false_ne_true h).elim
  | .common, _ => ⟨_, _, rfl, rfl⟩

theorem dcpZpx (d8 : Byte) : Statement (.dcpZpx d8) := fun
  | .none, h => (Bool.false_ne_true h).elim
  | .common, _ => ⟨_, _, rfl, rfl⟩

theorem dcpAbs (a16 : Addr) : Statement (.dcpAbs a16) := fun
  | .none, h => (Bool.false_ne_true h).elim
  | .common, _ => ⟨_, _, rfl, rfl⟩

theorem dcpAbx (a16 : Addr) : Statement (.dcpAbx a16) := fun
  | .none, h => (Bool.false_ne_true h).elim
  | .common, _ => ⟨_, _, rfl, rfl⟩

theorem dcpAby (a16 : Addr) : Statement (.dcpAby a16) := fun
  | .none, h => (Bool.false_ne_true h).elim
  | .common, _ => ⟨_, _, rfl, rfl⟩

theorem dcpIzx (d8 : Byte) : Statement (.dcpIzx d8) := fun
  | .none, h => (Bool.false_ne_true h).elim
  | .common, _ => ⟨_, _, rfl, rfl⟩

theorem dcpIzy (d8 : Byte) : Statement (.dcpIzy d8) := fun
  | .none, h => (Bool.false_ne_true h).elim
  | .common, _ => ⟨_, _, rfl, rfl⟩

theorem iscZp (d8 : Byte) : Statement (.iscZp d8) := fun
  | .none, h => (Bool.false_ne_true h).elim
  | .common, _ => ⟨_, _, rfl, rfl⟩

theorem iscZpx (d8 : Byte) : Statement (.iscZpx d8) := fun
  | .none, h => (Bool.false_ne_true h).elim
  | .common, _ => ⟨_, _, rfl, rfl⟩

theorem iscAbs (a16 : Addr) : Statement (.iscAbs a16) := fun
  | .none, h => (Bool.false_ne_true h).elim
  | .common, _ => ⟨_, _, rfl, rfl⟩

theorem iscAbx (a16 : Addr) : Statement (.iscAbx a16) := fun
  | .none, h => (Bool.false_ne_true h).elim
  | .common, _ => ⟨_, _, rfl, rfl⟩

theorem iscAby (a16 : Addr) : Statement (.iscAby a16) := fun
  | .none, h => (Bool.false_ne_true h).elim
  | .common, _ => ⟨_, _, rfl, rfl⟩

theorem iscIzx (d8 : Byte) : Statement (.iscIzx d8) := fun
  | .none, h => (Bool.false_ne_true h).elim
  | .common, _ => ⟨_, _, rfl, rfl⟩

theorem iscIzy (d8 : Byte) : Statement (.iscIzy d8) := fun
  | .none, h => (Bool.false_ne_true h).elim
  | .common, _ => ⟨_, _, rfl, rfl⟩

theorem sloZp (d8 : Byte) : Statement (.sloZp d8) := fun
  | .none, h => (Bool.false_ne_true h).elim
  | .common, _ => ⟨_, _, rfl, rfl⟩

theorem sloZpx (d8 : Byte) : Statement (.sloZpx d8) := fun
  | .none, h => (Bool.false_ne_true h).elim
  | .common, _ => ⟨_, _, rfl, rfl⟩

theorem sloAbs (a16 : Addr) : Statement (.sloAbs a16) := fun
  | .none, h => (Bool.false_ne_true h).elim
  | .common, _ => ⟨_, _, rfl, rfl⟩

theorem sloAbx (a16 : Addr) : Statement (.sloAbx a16) := fun
  | .none, h => (Bool.false_ne_true h).elim
  | .common, _ => ⟨_, _, rfl, rfl⟩

theorem sloAby (a16 : Addr) : Statement (.sloAby a16) := fun
  | .none, h => (Bool.false_ne_true h).elim
  | .common, _ => ⟨_, _, rfl, rfl⟩

theorem sloIzx (d8 : Byte) : Statement (.sloIzx d8) := fun
  | .none, h => (Bool.false_ne_true h).elim
  | .common, _ => ⟨_, _, rfl, rfl⟩

theorem sloIzy (d8 : Byte) : Statement (.sloIzy d8) := fun
  | .none, h => (Bool.false_ne_true h).elim
  | .common, _ => ⟨_, _, rfl, rfl⟩

theorem rlaZp (d8 : Byte) : Statement (.rlaZp d8) := fun
  | .none, h => (Bool.false_ne_true h).elim
  | .common, _ => ⟨_, _, rfl, rfl⟩

theorem rlaZpx (d8 : Byte) : Statement (.rlaZpx d8) := fun
  | .none, h => (Bool.false_ne_true h).elim
  | .common, _ => ⟨_, _, rfl, rfl⟩

theorem rlaAbs (a16 : Addr) : Statement (.rlaAbs a16) := fun
  | .none, h => (Bool.false_ne_true h).elim
  | .common, _ => ⟨_, _, rfl, rfl⟩

theorem rlaAbx (a16 : Addr) : Statement (.rlaAbx a16) := fun
  | .none, h => (Bool.false_ne_true h).elim
  | .common, _ => ⟨_, _, rfl, rfl⟩

theorem rlaAby (a16 : Addr) : Statement (.rlaAby a16) := fun
  | .none, h => (Bool.false_ne_true h).elim
  | .common, _ => ⟨_, _, rfl, rfl⟩

theorem rlaIzx (d8 : Byte) : Statement (.rlaIzx d8) := fun
  | .none, h => (Bool.false_ne_true h).elim
  | .common, _ => ⟨_, _, rfl, rfl⟩

theorem rlaIzy (d8 : Byte) : Statement (.rlaIzy d8) := fun
  | .none, h => (Bool.false_ne_true h).elim
  | .common, _ => ⟨_, _, rfl, rfl⟩

theorem sreZp (d8 : Byte) : Statement (.sreZp d8) := fun
  | .none, h => (Bool.false_ne_true h).elim
  | .common, _ => ⟨_, _, rfl, rfl⟩

theorem sreZpx (d8 : Byte) : Statement (.sreZpx d8) := fun
  | .none, h => (Bool.false_ne_true h).elim
  | .common, _ => ⟨_, _, rfl, rfl⟩

theorem sreAbs (a16 : Addr) : Statement (.sreAbs a16) := fun
  | .none, h => (Bool.false_ne_true h).elim
  | .common, _ => ⟨_, _, rfl, rfl⟩

theorem sreAbx (a16 : Addr) : Statement (.sreAbx a16) := fun
  | .none, h => (Bool.false_ne_true h).elim
  | .common, _ => ⟨_, _, rfl, rfl⟩

theorem sreAby (a16 : Addr) : Statement (.sreAby a16) := fun
  | .none, h => (Bool.false_ne_true h).elim
  | .common, _ => ⟨_, _, rfl, rfl⟩

theorem sreIzx (d8 : Byte) : Statement (.sreIzx d8) := fun
  | .none, h => (Bool.false_ne_true h).elim
  | .common, _ => ⟨_, _, rfl, rfl⟩

theorem sreIzy (d8 : Byte) : Statement (.sreIzy d8) := fun
  | .none, h => (Bool.false_ne_true h).elim
  | .common, _ => ⟨_, _, rfl, rfl⟩

theorem rraZp (d8 : Byte) : Statement (.rraZp d8) := fun
  | .none, h => (Bool.false_ne_true h).elim
  | .common, _ => ⟨_, _, rfl, rfl⟩

theorem rraZpx (d8 : Byte) : Statement (.rraZpx d8) := fun
  | .none, h => (Bool.false_ne_true h).elim
  | .common, _ => ⟨_, _, rfl, rfl⟩

theorem rraAbs (a16 : Addr) : Statement (.rraAbs a16) := fun
  | .none, h => (Bool.false_ne_true h).elim
  | .common, _ => ⟨_, _, rfl, rfl⟩

theorem rraAbx (a16 : Addr) : Statement (.rraAbx a16) := fun
  | .none, h => (Bool.false_ne_true h).elim
  | .common, _ => ⟨_, _, rfl, rfl⟩

theorem rraAby (a16 : Addr) : Statement (.rraAby a16) := fun
  | .none, h => (Bool.false_ne_true h).elim
  | .common, _ => ⟨_, _, rfl, rfl⟩

theorem rraIzx (d8 : Byte) : Statement (.rraIzx d8) := fun
  | .none, h => (Bool.false_ne_true h).elim
  | .common, _ => ⟨_, _, rfl, rfl⟩

theorem rraIzy (d8 : Byte) : Statement (.rraIzy d8) := fun
  | .none, h => (Bool.false_ne_true h).elim
  | .common, _ => ⟨_, _, rfl, rfl⟩

end Sys2Proof.Laws.OpcodeFixesLength
end

