-- ==== Sys2Proof/Laws/Reset.lean ====
section
/-! SUPPORT. `State.reset` is the transition `reset()` applied to a power-on state with the values notes/assumptions name. -/

namespace Sys2Proof.Machine

/-- A power-on state (70_reset_and_hazards.md R301): `A X Y RAM` and the outside as notes/assumptions/1.md, 2.md, 4.md, 5.md, 6.md name
them; every other item is unspecified until the first `reset()`, so it stands here with values that `reset()` overwrites. -/
def powerOn : State :=
  { State.reset with
    sp := 0x00, pc := 0x1234, n := true, v := true, d := true, i := false, z := true, c := true
    cycles := 99, nmiPending := true, irqPending := true, latch := 0x00, fault := some (0x02, 0x0000) }

/-- `State.reset` is what R300 makes of a power-on state. -/
theorem reset_eq_resetMachine : resetMachine powerOn = State.reset := by decide

theorem reset_ram_wf : Memory.wf State.reset.ram := by decide

end Sys2Proof.Machine
end

