-- ==== Sys2Proof/Tests/Slice0.lean ====
section
/-! SUPPORT. The model's own tests: ill-formed terms that the checks refuse, a word of every encoding, at most two vectors of
spec/95_test_vectors.md for a mnemonic, the bank controller, and a witness for every obligation that has hypotheses. -/

namespace Sys2Proof.Tests

open Sys2Proof.Machine Sys2Proof.Claims

/-! ### Well-formedness -/

/-- An optional instruction is not in the table under `none` (46_undocumented.md R240). -/
theorem test_optional_refused :
    (Instr.laxZp 0x10).wellFormed .none = false ∧ (Instr.laxZp 0x10).wellFormed .common = true ∧
    (Instr.ldaZp 0x10).wellFormed .none = true := by decide

/-- The default configuration keeps R63. -/
theorem test_default_wellFormed : Config.default.wellFormed = true := by decide

/-- R63 (a): two peripherals that share one address. -/
theorem test_overlapping_peripherals_refused :
    { Config.default with peripherals := [⟨0xD000, 0xD3FF⟩, ⟨0xD3FF, 0xD7FF⟩] }.wellFormed = false ∧
    { Config.default with peripherals := [⟨0xD000, 0xD3FF⟩, ⟨0xD400, 0xD7FF⟩] }.wellFormed = true := by decide

/-- R63 (b): a peripheral on the latch. -/
theorem test_peripheral_on_latch_refused :
    { Config.default with peripherals := [⟨0x0000, 0x0001⟩] }.wellFormed = false ∧
    { Config.default with peripherals := [⟨0x0002, 0x0003⟩] }.wellFormed = true := by decide

/-- R63 (c): a peripheral in a ROM window, at either end of either. -/
theorem test_peripheral_in_rom_window_refused :
    { Config.default with peripherals := [⟨0x9F00, 0xA000⟩] }.wellFormed = false ∧
    { Config.default with peripherals := [⟨0xBFFF, 0xC0FF⟩] }.wellFormed = false ∧
    { Config.default with peripherals := [⟨0xDF00, 0xE000⟩] }.wellFormed = false ∧
    { Config.default with peripherals := [⟨0xFFFF, 0xFFFF⟩] }.wellFormed = false ∧
    { Config.default with peripherals := [⟨0xC000, 0xDFFF⟩] }.wellFormed = true := by decide

/-- R63 (d): a cartridge that claims the latch, on writes only and for one latch value only. -/
theorem test_cartridge_on_latch_refused :
    { Config.default with cart := some [⟨0x0000, 0x00FF, 0x07, 0x05, false, true⟩] }.wellFormed = false ∧
    { Config.default with cart := some [⟨0x8000, 0x9FFF, 0x03, 0x03, true, false⟩] }.wellFormed = true := by decide

/-- R63 (e): an image shorter than its window. -/
theorem test_short_rom_refused :
    { Config.default with romBasic := some [0xBB] }.wellFormed = false ∧
    { Config.default with romChar := some [] }.wellFormed = false ∧
    { Config.default with romKernal := some [0xAA] }.wellFormed = false := by decide

/-- Images of the windows' lengths are accepted, whatever their bytes. -/
theorem test_roms_wellFormed (basic char kernal : List Byte) (hb : basic.length = 8192) (hc : char.length = 4096)
    (hk : kernal.length = 8192) :
    { Config.default with romBasic := some basic, romChar := some char, romKernal := some kernal }.wellFormed = true := by
  simp [Config.wellFormed, Config.romsFit, romFits, Rom.size, Config.default, Config.peripheralsDisjoint, Config.latchFree,
    Config.romWindowsFree, Config.cartLeavesLatch, hb, hc, hk]

/-! ### Decoding: every encoding of spec/opcode_table.json, bit by bit, with operand bytes `$9C` or `$34 $E2` -/

/-- Each byte string decodes to its instruction, with nothing left over. -/
def decodesTo (words : List (List Byte × Instr)) : Bool :=
  words.all fun p =>
    match decode .common p.1 with
    | .ok (i, []) => i == p.2
    | .ok (_, _ :: _) => false
    | .error _ => false

theorem test_decode_load_store : decodesTo
    [([0b10100001, 0x9C], .ldaIzx 0x9C), ([0b10100101, 0x9C], .ldaZp 0x9C), ([0b10101001, 0x9C], .ldaImm 0x9C),
     ([0b10101101, 0x34, 0xE2], .ldaAbs 0xE234), ([0b10110001, 0x9C], .ldaIzy 0x9C), ([0b10110101, 0x9C], .ldaZpx 0x9C),
     ([0b10111001, 0x34, 0xE2], .ldaAby 0xE234), ([0b10111101, 0x34, 0xE2], .ldaAbx 0xE234),
     ([0b10100010, 0x9C], .ldxImm 0x9C), ([0b10100110, 0x9C], .ldxZp 0x9C), ([0b10101110, 0x34, 0xE2], .ldxAbs 0xE234),
     ([0b10110110, 0x9C], .ldxZpy 0x9C), ([0b10111110, 0x34, 0xE2], .ldxAby 0xE234), ([0b10100000, 0x9C], .ldyImm 0x9C),
     ([0b10100100, 0x9C], .ldyZp 0x9C), ([0b10101100, 0x34, 0xE2], .ldyAbs 0xE234), ([0b10110100, 0x9C], .ldyZpx 0x9C),
     ([0b10111100, 0x34, 0xE2], .ldyAbx 0xE234), ([0b10000001, 0x9C], .staIzx 0x9C), ([0b10000101, 0x9C], .staZp 0x9C),
     ([0b10001101, 0x34, 0xE2], .staAbs 0xE234), ([0b10010001, 0x9C], .staIzy 0x9C), ([0b10010101, 0x9C], .staZpx 0x9C),
     ([0b10011001, 0x34, 0xE2], .staAby 0xE234), ([0b10011101, 0x34, 0xE2], .staAbx 0xE234), ([0b10000110, 0x9C], .stxZp 0x9C),
     ([0b10001110, 0x34, 0xE2], .stxAbs 0xE234), ([0b10010110, 0x9C], .stxZpy 0x9C), ([0b10000100, 0x9C], .styZp 0x9C),
     ([0b10001100, 0x34, 0xE2], .styAbs 0xE234), ([0b10010100, 0x9C], .styZpx 0x9C)] = true := by decide

theorem test_decode_transfer_stack : decodesTo
    [([0b10101010], .tax), ([0b10101000], .tay), ([0b10001010], .txa), ([0b10011000], .tya), ([0b10111010], .tsx),
     ([0b10011010], .txs), ([0b01001000], .pha), ([0b00001000], .php), ([0b01101000], .pla), ([0b00101000], .plp)] = true := by decide

theorem test_decode_logic : decodesTo
    [([0b00100001, 0x9C], .andIzx 0x9C), ([0b00100101, 0x9C], .andZp 0x9C), ([0b00101001, 0x9C], .andImm 0x9C),
     ([0b00101101, 0x34, 0xE2], .andAbs 0xE234), ([0b00110001, 0x9C], .andIzy 0x9C), ([0b00110101, 0x9C], .andZpx 0x9C),
     ([0b00111001, 0x34, 0xE2], .andAby 0xE234), ([0b00111101, 0x34, 0xE2], .andAbx 0xE234),
     ([0b00000001, 0x9C], .oraIzx 0x9C), ([0b00000101, 0x9C], .oraZp 0x9C), ([0b00001001, 0x9C], .oraImm 0x9C),
     ([0b00001101, 0x34, 0xE2], .oraAbs 0xE234), ([0b00010001, 0x9C], .oraIzy 0x9C), ([0b00010101, 0x9C], .oraZpx 0x9C),
     ([0b00011001, 0x34, 0xE2], .oraAby 0xE234), ([0b00011101, 0x34, 0xE2], .oraAbx 0xE234),
     ([0b01000001, 0x9C], .eorIzx 0x9C), ([0b01000101, 0x9C], .eorZp 0x9C), ([0b01001001, 0x9C], .eorImm 0x9C),
     ([0b01001101, 0x34, 0xE2], .eorAbs 0xE234), ([0b01010001, 0x9C], .eorIzy 0x9C), ([0b01010101, 0x9C], .eorZpx 0x9C),
     ([0b01011001, 0x34, 0xE2], .eorAby 0xE234), ([0b01011101, 0x34, 0xE2], .eorAbx 0xE234), ([0b00100100, 0x9C], .bitZp 0x9C),
     ([0b00101100, 0x34, 0xE2], .bitAbs 0xE234)] = true := by decide

theorem test_decode_arithmetic : decodesTo
    [([0b01100001, 0x9C], .adcIzx 0x9C), ([0b01100101, 0x9C], .adcZp 0x9C), ([0b01101001, 0x9C], .adcImm 0x9C),
     ([0b01101101, 0x34, 0xE2], .adcAbs 0xE234), ([0b01110001, 0x9C], .adcIzy 0x9C), ([0b01110101, 0x9C], .adcZpx 0x9C),
     ([0b01111001, 0x34, 0xE2], .adcAby 0xE234), ([0b01111101, 0x34, 0xE2], .adcAbx 0xE234),
     ([0b11100001, 0x9C], .sbcIzx 0x9C), ([0b11100101, 0x9C], .sbcZp 0x9C), ([0b11101001, 0x9C], .sbcImm 0x9C),
     ([0b11101101, 0x34, 0xE2], .sbcAbs 0xE234), ([0b11110001, 0x9C], .sbcIzy 0x9C), ([0b11110101, 0x9C], .sbcZpx 0x9C),
     ([0b11111001, 0x34, 0xE2], .sbcAby 0xE234), ([0b11111101, 0x34, 0xE2], .sbcAbx 0xE234),
     ([0b11000001, 0x9C], .cmpIzx 0x9C), ([0b11000101, 0x9C], .cmpZp 0x9C), ([0b11001001, 0x9C], .cmpImm 0x9C),
     ([0b11001101, 0x34, 0xE2], .cmpAbs 0xE234), ([0b11010001, 0x9C], .cmpIzy 0x9C), ([0b11010101, 0x9C], .cmpZpx 0x9C),
     ([0b11011001, 0x34, 0xE2], .cmpAby 0xE234), ([0b11011101, 0x34, 0xE2], .cmpAbx 0xE234),
     ([0b11100000, 0x9C], .cpxImm 0x9C), ([0b11100100, 0x9C], .cpxZp 0x9C), ([0b11101100, 0x34, 0xE2], .cpxAbs 0xE234),
     ([0b11000000, 0x9C], .cpyImm 0x9C), ([0b11000100, 0x9C], .cpyZp 0x9C), ([0b11001100, 0x34, 0xE2], .cpyAbs 0xE234)] = true := by decide

theorem test_decode_incdec : decodesTo
    [([0b11100110, 0x9C], .incZp 0x9C), ([0b11101110, 0x34, 0xE2], .incAbs 0xE234), ([0b11110110, 0x9C], .incZpx 0x9C),
     ([0b11111110, 0x34, 0xE2], .incAbx 0xE234), ([0b11101000], .inx), ([0b11001000], .iny), ([0b11000110, 0x9C], .decZp 0x9C),
     ([0b11001110, 0x34, 0xE2], .decAbs 0xE234), ([0b11010110, 0x9C], .decZpx 0x9C),
     ([0b11011110, 0x34, 0xE2], .decAbx 0xE234), ([0b11001010], .dex), ([0b10001000], .dey)] = true := by decide

theorem test_decode_shift : decodesTo
    [([0b00000110, 0x9C], .aslZp 0x9C), ([0b00001010], .aslAcc), ([0b00001110, 0x34, 0xE2], .aslAbs 0xE234),
     ([0b00010110, 0x9C], .aslZpx 0x9C), ([0b00011110, 0x34, 0xE2], .aslAbx 0xE234), ([0b01000110, 0x9C], .lsrZp 0x9C),
     ([0b01001010], .lsrAcc), ([0b01001110, 0x34, 0xE2], .lsrAbs 0xE234), ([0b01010110, 0x9C], .lsrZpx 0x9C),
     ([0b01011110, 0x34, 0xE2], .lsrAbx 0xE234), ([0b00100110, 0x9C], .rolZp 0x9C), ([0b00101010], .rolAcc),
     ([0b00101110, 0x34, 0xE2], .rolAbs 0xE234), ([0b00110110, 0x9C], .rolZpx 0x9C),
     ([0b00111110, 0x34, 0xE2], .rolAbx 0xE234), ([0b01100110, 0x9C], .rorZp 0x9C), ([0b01101010], .rorAcc),
     ([0b01101110, 0x34, 0xE2], .rorAbs 0xE234), ([0b01110110, 0x9C], .rorZpx 0x9C), ([0b01111110, 0x34, 0xE2], .rorAbx 0xE234)] = true := by decide

theorem test_decode_control : decodesTo
    [([0b01001100, 0x34, 0xE2], .jmpAbs 0xE234), ([0b01101100, 0x34, 0xE2], .jmpInd 0xE234),
     ([0b00100000, 0x34, 0xE2], .jsr 0xE234), ([0b01100000], .rts), ([0b10010000, 0x9C], .bcc 0x9C),
     ([0b10110000, 0x9C], .bcs 0x9C), ([0b11110000, 0x9C], .beq 0x9C), ([0b11010000, 0x9C], .bne 0x9C),
     ([0b00110000, 0x9C], .bmi 0x9C), ([0b00010000, 0x9C], .bpl 0x9C), ([0b01010000, 0x9C], .bvc 0x9C),
     ([0b01110000, 0x9C], .bvs 0x9C)] = true := by decide

theorem test_decode_flags_system : decodesTo
    [([0b00011000], .clc), ([0b00111000], .sec), ([0b01011000], .cli), ([0b01111000], .sei), ([0b11011000], .cld),
     ([0b11111000], .sed), ([0b10111000], .clv), ([0b11101010], .nop), ([0b00000000], .brk), ([0b01000000], .rti)] = true := by decide

theorem test_decode_undocumented_loads : decodesTo
    [([0b10100011, 0x9C], .laxIzx 0x9C), ([0b10100111, 0x9C], .laxZp 0x9C), ([0b10101111, 0x34, 0xE2], .laxAbs 0xE234),
     ([0b10110011, 0x9C], .laxIzy 0x9C), ([0b10110111, 0x9C], .laxZpy 0x9C), ([0b10111111, 0x34, 0xE2], .laxAby 0xE234),
     ([0b10000011, 0x9C], .saxIzx 0x9C), ([0b10000111, 0x9C], .saxZp 0x9C), ([0b10001111, 0x34, 0xE2], .saxAbs 0xE234),
     ([0b10010111, 0x9C], .saxZpy 0x9C), ([0b11000011, 0x9C], .dcpIzx 0x9C), ([0b11000111, 0x9C], .dcpZp 0x9C),
     ([0b11001111, 0x34, 0xE2], .dcpAbs 0xE234), ([0b11010011, 0x9C], .dcpIzy 0x9C), ([0b11010111, 0x9C], .dcpZpx 0x9C),
     ([0b11011011, 0x34, 0xE2], .dcpAby 0xE234), ([0b11011111, 0x34, 0xE2], .dcpAbx 0xE234),
     ([0b11100011, 0x9C], .iscIzx 0x9C), ([0b11100111, 0x9C], .iscZp 0x9C), ([0b11101111, 0x34, 0xE2], .iscAbs 0xE234),
     ([0b11110011, 0x9C], .iscIzy 0x9C), ([0b11110111, 0x9C], .iscZpx 0x9C), ([0b11111011, 0x34, 0xE2], .iscAby 0xE234),
     ([0b11111111, 0x34, 0xE2], .iscAbx 0xE234)] = true := by decide

theorem test_decode_undocumented_shifts : decodesTo
    [([0b00000011, 0x9C], .sloIzx 0x9C), ([0b00000111, 0x9C], .sloZp 0x9C), ([0b00001111, 0x34, 0xE2], .sloAbs 0xE234),
     ([0b00010011, 0x9C], .sloIzy 0x9C), ([0b00010111, 0x9C], .sloZpx 0x9C), ([0b00011011, 0x34, 0xE2], .sloAby 0xE234),
     ([0b00011111, 0x34, 0xE2], .sloAbx 0xE234), ([0b00100011, 0x9C], .rlaIzx 0x9C), ([0b00100111, 0x9C], .rlaZp 0x9C),
     ([0b00101111, 0x34, 0xE2], .rlaAbs 0xE234), ([0b00110011, 0x9C], .rlaIzy 0x9C), ([0b00110111, 0x9C], .rlaZpx 0x9C),
     ([0b00111011, 0x34, 0xE2], .rlaAby 0xE234), ([0b00111111, 0x34, 0xE2], .rlaAbx 0xE234),
     ([0b01000011, 0x9C], .sreIzx 0x9C), ([0b01000111, 0x9C], .sreZp 0x9C), ([0b01001111, 0x34, 0xE2], .sreAbs 0xE234),
     ([0b01010011, 0x9C], .sreIzy 0x9C), ([0b01010111, 0x9C], .sreZpx 0x9C), ([0b01011011, 0x34, 0xE2], .sreAby 0xE234),
     ([0b01011111, 0x34, 0xE2], .sreAbx 0xE234), ([0b01100011, 0x9C], .rraIzx 0x9C), ([0b01100111, 0x9C], .rraZp 0x9C),
     ([0b01101111, 0x34, 0xE2], .rraAbs 0xE234), ([0b01110011, 0x9C], .rraIzy 0x9C), ([0b01110111, 0x9C], .rraZpx 0x9C),
     ([0b01111011, 0x34, 0xE2], .rraAby 0xE234), ([0b01111111, 0x34, 0xE2], .rraAbx 0xE234)] = true := by decide

/-- Refused by name: a fatal opcode, an optional one under `none`, and too few bytes (30_encoding.md R112, R113). -/
theorem test_decode_refuses :
    (decode .common [0xEB, 0x01]).toOption = none ∧ (decode .none [0xA7, 0x10]).toOption = none ∧
    (decode .common [0xA9]).toOption = none ∧ (decode .common [0x4C, 0x34]).toOption = none := by decide

/-- The host's numbering: the opcode in bits 7 to 0, later bytes above it. -/
theorem test_decodeTableWord :
    decodeTableWord 24 0x1234AD = some (.ldaAbs 0x1234) ∧ decodeTableWord 16 0xFED0 = some (.bne 0xFE) ∧
    decodeTableWord 8 0xAD = some (.ldaAbs 0x0000) ∧ decodeTableWord 8 0x02 = none := by decide

/-- From the state after reset the placed instruction is what the next step runs: `LDA #$44`. -/
theorem test_withFetchWord :
    (match step (State.reset.withFetchWord 16 0x44A9) with
      | .next t => t.a == 0x44 && t.pc == 0x0202
      | .fault _ => false
      | .refused _ => false) = true := by decide

/-! ### One transition: the vectors of spec/95_test_vectors.md section 2 -/

/-- The spec's default start state, with bytes at `PC` and in RAM. -/
def start (pc : Addr) (code : List Byte) (cells : List (Nat × Byte)) : State :=
  { State.reset with
    pc := pc, i := false
    ram := storeBytes code pc (cells.foldl (fun m cell => ramWrite m cell.1 cell.2) []) }

/-- One step leads to these registers, status byte, latch and cycles, and RAM is as before but for these writes. -/
def ends (s : State) (a x y sp : Byte) (pc : Addr) (p latch : Byte) (cycles : Nat) (writes : List (Nat × Byte)) : Bool :=
  match step s with
  | .next t =>
    t.a == a && t.x == x && t.y == y && t.sp == sp && t.pc == pc && pByte false t == p && t.latch == latch && t.cycles == cycles &&
    t.fault == none && !t.nmiPending && t.ram == writes.foldl (fun m cell => ramWrite m cell.1 cell.2) s.ram
  | .fault _ => false
  | .refused _ => false

/-- V4. -/
theorem test_lda_abx_page_crossed : ends { start 0x0200 [0xBD, 0xF0, 0x10] [(0x1100, 0x01)] with x := 0x10 }
    0x01 0x10 0x00 0xFD 0x0203 0x20 0x37 5 [] = true := by decide

/-- V9. -/
theorem test_lda_izy_page_crossed : ends { start 0x0200 [0xB1, 0x40] [(0x0040, 0x01), (0x0041, 0x30), (0x3100, 0x05)] with y := 0xFF }
    0x05 0x00 0xFF 0xFD 0x0202 0x20 0x37 6 [] = true := by decide

/-- V11. -/
theorem test_ldx_zpy_wraps : ends { start 0x0200 [0xB6, 0xF0] [(0x0010, 0x00)] with y := 0x20 }
    0x00 0x00 0x20 0xFD 0x0202 0x22 0x37 4 [] = true := by decide

/-- V13. -/
theorem test_ldy_abx : ends { start 0x0200 [0xBC, 0x00, 0x10] [(0x10FF, 0x33)] with x := 0xFF }
    0x00 0xFF 0x33 0xFD 0x0203 0x20 0x37 4 [] = true := by decide

/-- V14. -/
theorem test_sta_abx_no_page_cycle : ends { start 0x0200 [0x9D, 0xFF, 0x10] [] with a := 0xAB, x := 0x01 }
    0xAB 0x01 0x00 0xFD 0x0203 0x20 0x37 5 [(0x1100, 0xAB)] = true := by decide

/-- V16. -/
theorem test_sta_izx : ends { start 0x0200 [0x81, 0x40] [(0x0042, 0x00), (0x0043, 0x50)] with a := 0xEE, x := 0x02 }
    0xEE 0x02 0x00 0xFD 0x0202 0x20 0x37 6 [(0x5000, 0xEE)] = true := by decide

/-- V17. -/
theorem test_stx_zpy : ends { start 0x0200 [0x96, 0xF0] [] with x := 0x5A, y := 0x20 }
    0x00 0x5A 0x20 0xFD 0x0202 0x20 0x37 4 [(0x0010, 0x5A)] = true := by decide

/-- V18. -/
theorem test_sty_zpx : ends { start 0x0200 [0x94, 0x10] [] with y := 0xA5, x := 0x05, n := true }
    0x00 0x05 0xA5 0xFD 0x0202 0xA0 0x37 4 [(0x0015, 0xA5)] = true := by decide

/-- V19. -/
theorem test_sta_latch : ends { start 0x0200 [0x85, 0x01] [] with a := 0x35 }
    0x35 0x00 0x00 0xFD 0x0202 0x20 0x35 3 [] = true := by decide

/-- V21. -/
theorem test_tax : ends { start 0x0200 [0xAA] [] with a := 0x00, x := 0x12 }
    0x00 0x00 0x00 0xFD 0x0201 0x22 0x37 2 [] = true := by decide

/-- V22. -/
theorem test_tay : ends { start 0x0200 [0xA8] [] with a := 0x80 }
    0x80 0x00 0x80 0xFD 0x0201 0xA0 0x37 2 [] = true := by decide

/-- V23. -/
theorem test_txa : ends { start 0x0200 [0x8A] [] with x := 0x7F, a := 0xFF, n := true }
    0x7F 0x7F 0x00 0xFD 0x0201 0x20 0x37 2 [] = true := by decide

/-- V24. -/
theorem test_tya : ends { start 0x0200 [0x98] [] with y := 0xFF }
    0xFF 0x00 0xFF 0xFD 0x0201 0xA0 0x37 2 [] = true := by decide

/-- V25. -/
theorem test_tsx : ends { start 0x0200 [0xBA] [] with sp := 0x80 }
    0x00 0x80 0x00 0x80 0x0201 0xA0 0x37 2 [] = true := by decide

/-- V26. -/
theorem test_txs : ends { start 0x0200 [0x9A] [] with x := 0x00, n := true }
    0x00 0x00 0x00 0x00 0x0201 0xA0 0x37 2 [] = true := by decide

/-- V28. -/
theorem test_pha_wraps : ends { start 0x0200 [0x48] [] with a := 0x42, sp := 0x00 }
    0x42 0x00 0x00 0xFF 0x0201 0x20 0x37 3 [(0x0100, 0x42)] = true := by decide

/-- V29. -/
theorem test_php_bits_set : ends { start 0x0200 [0x08] [] with n := true, c := true }
    0x00 0x00 0x00 0xFC 0x0201 0xA1 0x37 3 [(0x01FD, 0xB1)] = true := by decide

/-- V32. -/
theorem test_pla_wraps : ends { start 0x0200 [0x68] [(0x0100, 0x80)] with sp := 0xFF }
    0x80 0x00 0x00 0x00 0x0201 0xA0 0x37 4 [] = true := by decide

/-- V33. -/
theorem test_plp_ignores_bits : ends { start 0x0200 [0x28] [(0x01FD, 0xFF)] with sp := 0xFC }
    0x00 0x00 0x00 0xFD 0x0201 0xEF 0x37 4 [] = true := by decide

/-- V36. -/
theorem test_and : ends { start 0x0200 [0x25, 0x10] [(0x0010, 0x80)] with a := 0xFF, v := true }
    0x80 0x00 0x00 0xFD 0x0202 0xE0 0x37 3 [] = true := by decide

/-- V37. -/
theorem test_ora : ends { start 0x0200 [0x09, 0x80] [] with a := 0x01 }
    0x81 0x00 0x00 0xFD 0x0202 0xA0 0x37 2 [] = true := by decide

/-- V40. -/
theorem test_eor : ends { start 0x0200 [0x59, 0xFF, 0x10] [(0x1100, 0xF0)] with a := 0x0F, y := 0x01 }
    0xFF 0x00 0x01 0xFD 0x0203 0xA0 0x37 5 [] = true := by decide

/-- V41. -/
theorem test_bit : ends { start 0x0200 [0x24, 0x10] [(0x0010, 0xC0)] with a := 0x01 }
    0x01 0x00 0x00 0xFD 0x0202 0xE2 0x37 3 [] = true := by decide

/-- V48. -/
theorem test_adc_overflow : ends { start 0x0200 [0x69, 0xFF] [] with a := 0x80, c := false }
    0x7F 0x00 0x00 0xFD 0x0202 0x61 0x37 2 [] = true := by decide

/-- V54. -/
theorem test_sbc_borrow : ends { start 0x0200 [0xE9, 0x00] [] with a := 0x00, c := false }
    0xFF 0x00 0x00 0xFD 0x0202 0xA0 0x37 2 [] = true := by decide

/-- V59. -/
theorem test_adc_decimal : ends { start 0x0200 [0x69, 0x46] [] with a := 0x58, c := false, d := true }
    0x04 0x00 0x00 0xFD 0x0202 0xE9 0x37 2 [] = true := by decide

/-- V72. -/
theorem test_sbc_decimal : ends { start 0x0200 [0xE9, 0x21] [] with a := 0x12, c := true, d := true }
    0x91 0x00 0x00 0xFD 0x0202 0xA8 0x37 2 [] = true := by decide

/-- V87. -/
theorem test_cmp_below : ends { start 0x0200 [0xC9, 0x41] [] with a := 0x40 }
    0x40 0x00 0x00 0xFD 0x0202 0xA0 0x37 2 [] = true := by decide

/-- V91. -/
theorem test_cmp_ignores_decimal : ends { start 0x0200 [0xC9, 0x40] [] with a := 0x50, d := true, v := true }
    0x50 0x00 0x00 0xFD 0x0202 0x69 0x37 2 [] = true := by decide

/-- V92. -/
theorem test_cpx : ends { start 0x0200 [0xE4, 0x10] [(0x0010, 0x20)] with x := 0x10 }
    0x00 0x10 0x00 0xFD 0x0202 0xA0 0x37 3 [] = true := by decide

/-- V95. -/
theorem test_cpy : ends { start 0x0200 [0xCC, 0x34, 0x12] [(0x1234, 0x01)] with y := 0x00 }
    0x00 0x00 0x00 0xFD 0x0203 0xA0 0x37 4 [] = true := by decide

/-- V97. -/
theorem test_inc_abx : ends { start 0x0200 [0xFE, 0xFF, 0x10] [(0x1100, 0x7F)] with x := 0x01 }
    0x00 0x01 0x00 0xFD 0x0203 0xA0 0x37 7 [(0x1100, 0x80)] = true := by decide

/-- V99. -/
theorem test_inc_of_the_latch : ends (start 0x0200 [0xE6, 0x01] [])
    0x00 0x00 0x00 0xFD 0x0202 0x20 0x38 5 [] = true := by decide

/-- V100. -/
theorem test_inx : ends { start 0x0200 [0xE8] [] with x := 0xFF }
    0x00 0x00 0x00 0xFD 0x0201 0x22 0x37 2 [] = true := by decide

/-- V101. -/
theorem test_iny : ends { start 0x0200 [0xC8] [] with y := 0x7F }
    0x00 0x00 0x80 0xFD 0x0201 0xA0 0x37 2 [] = true := by decide

/-- V103. -/
theorem test_dec : ends (start 0x0200 [0xCE, 0x34, 0x12] [(0x1234, 0x01)])
    0x00 0x00 0x00 0xFD 0x0203 0x22 0x37 6 [(0x1234, 0x00)] = true := by decide

/-- V104. -/
theorem test_dex : ends { start 0x0200 [0xCA] [] with x := 0x00 }
    0x00 0xFF 0x00 0xFD 0x0201 0xA0 0x37 2 [] = true := by decide

/-- V105. -/
theorem test_dey : ends { start 0x0200 [0x88] [] with y := 0x01 }
    0x00 0x00 0x00 0xFD 0x0201 0x22 0x37 2 [] = true := by decide

/-- V106. -/
theorem test_asl_acc : ends { start 0x0200 [0x0A] [] with a := 0x81 }
    0x02 0x00 0x00 0xFD 0x0201 0x21 0x37 2 [] = true := by decide

/-- V107. -/
theorem test_asl_zp : ends (start 0x0200 [0x06, 0x10] [(0x0010, 0x80)])
    0x00 0x00 0x00 0xFD 0x0202 0x23 0x37 5 [(0x0010, 0x00)] = true := by decide

/-- V108. -/
theorem test_lsr_acc : ends { start 0x0200 [0x4A] [] with a := 0x01, n := true }
    0x00 0x00 0x00 0xFD 0x0201 0x23 0x37 2 [] = true := by decide

/-- V109. -/
theorem test_lsr_zpx : ends { start 0x0200 [0x56, 0x20] [(0x0010, 0xFE)] with x := 0xF0 }
    0x00 0xF0 0x00 0xFD 0x0202 0x20 0x37 6 [(0x0010, 0x7F)] = true := by decide

/-- V111. -/
theorem test_rol_acc : ends { start 0x0200 [0x2A] [] with a := 0x40, c := true }
    0x81 0x00 0x00 0xFD 0x0201 0xA0 0x37 2 [] = true := by decide

/-- V112. -/
theorem test_rol_abs : ends (start 0x0200 [0x2E, 0x34, 0x12] [(0x1234, 0xFF)])
    0x00 0x00 0x00 0xFD 0x0203 0xA1 0x37 6 [(0x1234, 0xFE)] = true := by decide

/-- V114. -/
theorem test_ror_acc : ends { start 0x0200 [0x6A] [] with a := 0x00, c := true }
    0x80 0x00 0x00 0xFD 0x0201 0xA0 0x37 2 [] = true := by decide

/-- V115. -/
theorem test_ror_zp : ends { start 0x0200 [0x66, 0x10] [(0x0010, 0x02)] with c := true }
    0x00 0x00 0x00 0xFD 0x0202 0xA0 0x37 5 [(0x0010, 0x81)] = true := by decide

/-- V116. -/
theorem test_jmp : ends (start 0x0200 [0x4C, 0x34, 0x12] [])
    0x00 0x00 0x00 0xFD 0x1234 0x20 0x37 3 [] = true := by decide

/-- V117. -/
theorem test_jmp_indirect_page : ends (start 0x0200 [0x6C, 0xFF, 0x30] [(0x30FF, 0x80), (0x3000, 0x40), (0x3100, 0x50)])
    0x00 0x00 0x00 0xFD 0x4080 0x20 0x37 5 [] = true := by decide

/-- V121. -/
theorem test_jsr_wraps : ends { start 0x0200 [0x20, 0x34, 0x12] [] with sp := 0x00 }
    0x00 0x00 0x00 0xFE 0x1234 0x20 0x37 6 [(0x0100, 0x02), (0x01FF, 0x02)] = true := by decide

/-- V123. -/
theorem test_rts_wraps : ends { start 0x0200 [0x60] [(0x01FC, 0xFF), (0x01FD, 0xFF)] with sp := 0xFB }
    0x00 0x00 0x00 0xFD 0x0000 0x20 0x37 6 [] = true := by decide

/-- V126. -/
theorem test_bne_back : ends (start 0x0200 [0xD0, 0xFE] [])
    0x00 0x00 0x00 0xFD 0x0200 0x20 0x37 3 [] = true := by decide

/-- V128. -/
theorem test_bcc : ends (start 0x02F0 [0x90, 0x7F] [])
    0x00 0x00 0x00 0xFD 0x0371 0x20 0x37 4 [] = true := by decide

/-- V130. -/
theorem test_bcs_not_taken : ends (start 0x0200 [0xB0, 0x10] [])
    0x00 0x00 0x00 0xFD 0x0202 0x20 0x37 2 [] = true := by decide

/-- V133. -/
theorem test_beq_page_of_next : ends { start 0x02FE [0xF0, 0x00] [] with z := true }
    0x00 0x00 0x00 0xFD 0x0300 0x22 0x37 3 [] = true := by decide

/-- V135. -/
theorem test_bmi : ends { start 0x0200 [0x30, 0x80] [] with n := true }
    0x00 0x00 0x00 0xFD 0x0182 0xA0 0x37 4 [] = true := by decide

/-- V136. -/
theorem test_bpl : ends (start 0x0200 [0x10, 0x00] [])
    0x00 0x00 0x00 0xFD 0x0202 0x20 0x37 3 [] = true := by decide

/-- V137. -/
theorem test_bvc : ends (start 0x0200 [0x50, 0x7F] [])
    0x00 0x00 0x00 0xFD 0x0281 0x20 0x37 3 [] = true := by decide

/-- V138. -/
theorem test_bvs : ends { start 0x0200 [0x70, 0x02] [] with v := true }
    0x00 0x00 0x00 0xFD 0x0204 0x60 0x37 3 [] = true := by decide

/-- V140. -/
theorem test_clc : ends { start 0x0200 [0x18] [] with c := true }
    0x00 0x00 0x00 0xFD 0x0201 0x20 0x37 2 [] = true := by decide

/-- V141. -/
theorem test_sec : ends (start 0x0200 [0x38] [])
    0x00 0x00 0x00 0xFD 0x0201 0x21 0x37 2 [] = true := by decide

/-- V142. -/
theorem test_cli : ends { start 0x0200 [0x58] [] with i := true }
    0x00 0x00 0x00 0xFD 0x0201 0x20 0x37 2 [] = true := by decide

/-- V143. -/
theorem test_sei : ends (start 0x0200 [0x78] [])
    0x00 0x00 0x00 0xFD 0x0201 0x24 0x37 2 [] = true := by decide

/-- V144. -/
theorem test_cld : ends { start 0x0200 [0xD8] [] with d := true }
    0x00 0x00 0x00 0xFD 0x0201 0x20 0x37 2 [] = true := by decide

/-- V145. -/
theorem test_sed : ends (start 0x0200 [0xF8] [])
    0x00 0x00 0x00 0xFD 0x0201 0x28 0x37 2 [] = true := by decide

/-- V146. -/
theorem test_clv : ends { start 0x0200 [0xB8] [] with v := true }
    0x00 0x00 0x00 0xFD 0x0201 0x20 0x37 2 [] = true := by decide

/-- V147. -/
theorem test_nop : ends { start 0x0200 [0xEA] [] with n := true, c := true }
    0x00 0x00 0x00 0xFD 0x0201 0xA1 0x37 2 [] = true := by decide

/-- V149. -/
theorem test_brk_page : ends { start 0x02FF [0x00] [(0xFFFE, 0x34), (0xFFFF, 0x12)] with latch := 0x35 }
    0x00 0x00 0x00 0xFA 0x1234 0x24 0x35 7 [(0x01FD, 0x03), (0x01FC, 0x01), (0x01FB, 0x30)] = true := by decide

/-- V151. -/
theorem test_rti : ends { start 0x0200 [0x40] [(0x01FB, 0xB1), (0x01FC, 0x02), (0x01FD, 0x02)] with sp := 0xFA, i := true }
    0x00 0x00 0x00 0xFD 0x0202 0xA1 0x37 6 [] = true := by decide

/-- V153. -/
theorem test_irq_entry : ends { start 0x0203 [0xEA] [(0xFFFE, 0x00), (0xFFFF, 0x90)] with n := true, c := true, latch := 0x35, irqSignals := [false, true] }
    0x00 0x00 0x00 0xFA 0x9000 0xA5 0x35 7 [(0x01FD, 0x02), (0x01FC, 0x03), (0x01FB, 0xA1)] = true := by decide

/-- V154. -/
theorem test_irq_masked : ends { start 0x0200 [0xEA] [(0xFFFE, 0x00), (0xFFFF, 0x90)] with i := true, latch := 0x35, irqSignals := [false, true] }
    0x00 0x00 0x00 0xFD 0x0201 0x24 0x35 2 [] = true := by decide

/-- V156. -/
theorem test_nmi_before_irq : ends { start 0x0200 [0xEA] [(0xFFFA, 0x34), (0xFFFB, 0x12), (0xFFFE, 0x00), (0xFFFF, 0x90)] with nmiPending := true, latch := 0x35, irqSignals := [false, true] }
    0x00 0x00 0x00 0xFA 0x1234 0x24 0x35 7 [(0x01FD, 0x02), (0x01FC, 0x00), (0x01FB, 0x20)] = true := by decide

/-- V166. -/
theorem test_lax : ends { start 0x0200 [0xBF, 0xFF, 0x10] [(0x1100, 0x00)] with y := 0x01, a := 0x55 }
    0x00 0x00 0x01 0xFD 0x0203 0x22 0x37 5 [] = true := by decide

/-- V167. -/
theorem test_sax : ends { start 0x0200 [0x87, 0x10] [] with a := 0xF0, x := 0x3C }
    0xF0 0x3C 0x00 0xFD 0x0202 0x20 0x37 3 [(0x0010, 0x30)] = true := by decide

/-- V169. -/
theorem test_dcp : ends { start 0x0200 [0xDB, 0xFF, 0x10] [(0x1100, 0x11)] with a := 0x10, y := 0x01 }
    0x10 0x00 0x01 0xFD 0x0203 0x23 0x37 7 [(0x1100, 0x10)] = true := by decide

/-- V170. -/
theorem test_isc : ends { start 0x0200 [0xE7, 0x10] [(0x0010, 0x0F)] with a := 0x20, c := true }
    0x10 0x00 0x00 0xFD 0x0202 0x21 0x37 5 [(0x0010, 0x10)] = true := by decide

/-- V172. -/
theorem test_slo : ends { start 0x0200 [0x13, 0x40] [(0x0040, 0x01), (0x0041, 0x30), (0x3100, 0x40)] with y := 0xFF }
    0x80 0x00 0xFF 0xFD 0x0202 0xA0 0x37 8 [(0x3100, 0x80)] = true := by decide

/-- V173. -/
theorem test_rla : ends { start 0x0200 [0x27, 0x10] [(0x0010, 0x80)] with a := 0xFF, c := true }
    0x01 0x00 0x00 0xFD 0x0202 0x21 0x37 5 [(0x0010, 0x01)] = true := by decide

/-- V174. -/
theorem test_sre : ends { start 0x0200 [0x47, 0x10] [(0x0010, 0x03)] with a := 0x01 }
    0x00 0x00 0x00 0xFD 0x0202 0x23 0x37 5 [(0x0010, 0x01)] = true := by decide

/-- V176. -/
theorem test_rra : ends { start 0x0200 [0x67, 0x10] [(0x0010, 0x02)] with a := 0x10, c := true }
    0x91 0x00 0x00 0xFD 0x0202 0xA0 0x37 5 [(0x0010, 0x81)] = true := by decide

/-- V164: `$FF` at `$FFFF` under `none` is fatal, one fetch, nothing pushed; the spec fixes no register afterwards. -/
theorem test_fatal_decode :
    (match step { start 0xFFFF [0xFF] [] with latch := 0x35, cfg := { Config.default with undoc := .none } } with
      | .next t => t.fault == some (0xFF, 0xFFFF) && t.latch == 0x35 && t.ram == [(0xFFFF, 0xFF)]
      | .fault _ => false
      | .refused _ => false) = true := by decide

/-! ### The bank controller: V177 to V188 -/

/-- The vectors' three images (their first bytes), RAM beneath, and the device over `$D000–$D3FF`. -/
def banked (latch : Byte) : State :=
  { State.reset with
    latch := latch, ram := [(0xA000, 0x22), (0xD000, 0x33), (0xE000, 0x11)]
    cfg := { Config.default with
      romKernal := some [0xAA], romBasic := some [0xBB], romChar := some [0xCC], peripherals := [⟨0xD000, 0xD3FF⟩] } }

theorem test_bank_e000 : busRead 0xE000 (banked 0x37) = 0xAA ∧ busRead 0xE000 (banked 0x35) = 0x11 := by decide

theorem test_bank_a000 : busRead 0xA000 (banked 0x37) = 0xBB ∧ busRead 0xA000 (banked 0x36) = 0x22 := by decide

theorem test_bank_d000 :
    owner (banked 0x37).cfg 0x37 .read 0xD000 = .device (.peripheral 0) ∧ busRead 0xD000 (banked 0x33) = 0xCC ∧
    busRead 0xD000 (banked 0x34) = 0x33 ∧ busRead 0xD000 (banked 0x30) = 0x33 ∧ busRead 0xD400 (banked 0x37) = 0x00 := by
  decide

theorem test_bank_writes :
    busRead 0xE000 (busWrite 0xE000 0x99 (banked 0x37)) = 0xAA ∧ ramRead (busWrite 0xE000 0x99 (banked 0x37)).ram 0xE000 = 0x99 ∧
    (busWrite 0xD000 0x99 (banked 0x37)).devices = [.write (.peripheral 0) 0xD000 0x99] ∧
    (busWrite 0xD000 0x99 (banked 0x37)).ram = (banked 0x37).ram ∧
    ramRead (busWrite 0xD000 0x99 (banked 0x33)).ram 0xD000 = 0x99 ∧ (busWrite 0xD000 0x99 (banked 0x33)).devices = [] := by
  decide

/-! ### Witnesses: a state and operands that meet the hypotheses of each obligation that has any -/

theorem witness_DecodeOfEncodeIsTheInstruction :
    (Instr.ldaImm 0x44).wellFormed .none = true ∧ (Instr.rraAby 0xFFFF).wellFormed .common = true := by decide

theorem witness_EncodeOfDecodeIsTheBytes : ∃ i rest, decode .none [0x4C, 0x34, 0x12, 0xEA] = .ok (i, rest) :=
  ⟨.jmpAbs 0x1234, [0xEA], rfl⟩

theorem witness_OpcodesOutsideTheTableAreRefused :
    (0x02 : Byte) ∈ fatalOpcodes ∧ (0xFC : Byte) ∈ fatalOpcodes ∧ (0x03 : Byte) ∈ optionalOpcodes ∧ (0xFF : Byte) ∈ optionalOpcodes ∧
    (0x00 : Byte) ∉ fatalOpcodes ∧ (0x00 : Byte) ∉ optionalOpcodes ∧ (0xFE : Byte) ∉ fatalOpcodes ∧ (0xFE : Byte) ∉ optionalOpcodes := by
  decide

theorem witness_StepRunsTheDecodedInstruction : ∃ s i rest,
    s.cfg.wellFormed = true ∧ s.fault = none ∧ pendingInterrupt (sampleIrq s) = none ∧
    decode s.cfg.undoc (fetchBytes (sampleIrq s)) = .ok (i, rest) :=
  ⟨start 0x0200 [0xAD, 0x34, 0x12] [], .ldaAbs 0x1234, [], rfl, rfl, rfl, rfl⟩

theorem witness_StepRunsTheBytesInRam : ∃ (s : State) (i : Instr),
    s.cfg.wellFormed = true ∧ s.fault = none ∧ s.nmiPending = false ∧ (s.i = true ∨ s.irqSignals.any id = false) ∧
    i.wellFormed s.cfg.undoc = true ∧
    (∀ k, k < (encode i).length →
      owner s.cfg s.latch .read (s.pc + BitVec.ofNat 16 k) = .ram ∧
      ramRead s.ram (s.pc + BitVec.ofNat 16 k).toNat = (encode i).getD k 0) :=
  ⟨start 0xFFFE [0x85, 0x02] [], .staZp 0x02, by decide⟩

theorem witness_FaultedStateStandsStill :
    (∃ s op pc, State.fault s = some (op, pc) ∧ s.cfg.wellFormed = true) ∧ ∃ s : State, s.cfg.wellFormed = false :=
  ⟨⟨{ State.reset with fault := some (0x02, 0x0200) }, _, _, rfl, rfl⟩,
    ⟨{ State.reset with cfg := { Config.default with romBasic := some [] } }, rfl⟩⟩

theorem witness_UndefinedOpcodeRaisesTheFault :
    (∃ s : State, s.cfg.wellFormed = true ∧ s.fault = none ∧ s.nmiPending = false ∧ s.irqSignals.any id = false ∧
      busRead s.pc s ∈ fatalOpcodes) ∧
    ∃ s : State, s.cfg.wellFormed = true ∧ s.fault = none ∧ s.nmiPending = false ∧ s.i = true ∧
      s.cfg.undoc = .none ∧ busRead s.pc s ∈ optionalOpcodes :=
  ⟨⟨start 0x0200 [0x02] [], by decide⟩,
    ⟨{ start 0x0200 [0xA7] [] with cfg := { Config.default with undoc := .none }, i := true, irqSignals := [true] }, by decide⟩⟩

theorem witness_InterruptEntry :
    (∃ s : State, s.cfg.wellFormed = true ∧ s.fault = none ∧ s.nmiPending = true) ∧
    ∃ s : State, s.cfg.wellFormed = true ∧ s.fault = none ∧ s.nmiPending = false ∧ s.irqSignals.any id = true ∧ s.i = false :=
  ⟨⟨{ State.reset with nmiPending := true }, by decide⟩,
    ⟨{ State.reset with irqSignals := [false, true], i := false }, by decide⟩⟩

/-- The stack page is RAM after reset, also where the frame wraps. -/
theorem witness_EntryFrameInRam :
    (∀ a ∈ frameAddrs State.reset, ramBacked State.reset a) ∧
    ∀ a ∈ frameAddrs { State.reset with sp := 0x01 }, ramBacked { State.reset with sp := 0x01 } a := by
  constructor <;> exact List.forall_mem_cons.mpr ⟨⟨rfl, rfl⟩, List.forall_mem_cons.mpr
    ⟨⟨rfl, rfl⟩, List.forall_mem_cons.mpr ⟨⟨rfl, rfl⟩, by simp⟩⟩⟩

theorem witness_PollPriority :
    (∃ s : State, s.cfg.wellFormed = true ∧ s.fault = none ∧ s.nmiPending = false ∧ s.irqSignals.any id = false) ∧
    ∃ s : State, s.cfg.wellFormed = true ∧ s.fault = none ∧ s.nmiPending = false ∧ s.irqSignals.any id = true ∧ s.i = true :=
  ⟨⟨State.reset, by decide⟩, ⟨{ State.reset with irqSignals := [true] }, by decide⟩⟩

/-- A next state from a state that meets the invariant, for an instruction and for a fatal decode fault. -/
theorem witness_StepKeepsTheInvariant :
    (∃ t, Safety.Inv State.reset ∧ step State.reset = .next t) ∧
    ∃ t, Safety.Inv (start 0x0200 [0x02] []) ∧ step (start 0x0200 [0x02] []) = .next t ∧ t.fault ≠ none :=
  ⟨⟨_, ⟨by decide, nofun⟩, rfl⟩, ⟨_, ⟨by decide, nofun⟩, rfl, by decide⟩⟩

theorem witness_CyclesGrow :
    (∃ t, exec (.ldaImm 0x80) State.reset = .next t ∧ (Instr.ldaImm 0x80).optional = false) ∧
    (∃ t, exec (.sloIzy 0x80) State.reset = .next t) ∧ ∃ t, step State.reset = .next t :=
  ⟨⟨_, rfl, rfl⟩, ⟨_, rfl⟩, ⟨_, rfl⟩⟩

theorem witness_InstructionsLeaveTheInterruptLatches : ∃ s t, s.nmiPending = true ∧ exec .brk s = .next t :=
  ⟨{ State.reset with nmiPending := true }, _, rfl, rfl⟩

/-- `NOP` is in no column of R29. -/
theorem witness_FlagsChangeOnlyWhereListed : ∃ t, exec .nop State.reset = .next t ∧
    Safety.mnemonic .nop ∉ nzWriters ∧ Safety.mnemonic .nop ∉ cWriters ∧ Safety.mnemonic .nop ∉ vWriters ∧
    Safety.mnemonic .nop ∉ dWriters ∧ Safety.mnemonic .nop ∉ iWriters :=
  ⟨_, rfl, by decide, by decide, by decide, by decide, by decide⟩

theorem witness_RegistersAndMemoryChangeOnlyWhereListed : ∃ t, exec .clc State.reset = .next t ∧
    Safety.mnemonic .clc ∉ aWriters ∧ Safety.mnemonic .clc ∉ xWriters ∧ Safety.mnemonic .clc ∉ yWriters ∧
    Safety.mnemonic .clc ∉ spWriters ∧ Safety.mnemonic .clc ∉ memoryWriters :=
  ⟨_, rfl, by decide, by decide, by decide, by decide, by decide⟩

/-- A step that writes at the latch's address. -/
theorem witness_RamUnderTheLatchIsNeverWritten : ∃ t, step (start 0x0200 [0x85, 0x01] []) = .next t ∧ t.latch = 0x00 :=
  ⟨_, rfl, by decide⟩

/-- A step that is asked for an interrupt. -/
theorem witness_StepKeepsConfigurationAndSignals :
    ∃ s t, s.irqSignals = [true] ∧ s.i = false ∧ step s = .next t :=
  ⟨{ State.reset with irqSignals := [true], i := false }, _, rfl, rfl, rfl⟩

/-- A step that reads a device. -/
theorem witness_DeviceHistoryOnlyGrows :
    ∃ s t, step s = .next t ∧ s.devices = [] ∧ t.devices = [.read (.peripheral 0) 0xD400] :=
  ⟨{ start 0x0200 [0xAD, 0x00, 0xD4] [] with cfg := { Config.default with peripherals := [⟨0xD400, 0xD7FF⟩] } },
    _, rfl, rfl, by decide⟩

theorem witness_InstructionsDoNotSeeInterruptsOrTime : ∃ t, exec (.jsr 0x1234) State.reset = .next t := ⟨_, rfl⟩

/-- With no cartridge, and with one that claims another window. -/
theorem witness_LatchAtItsAddress :
    cartClaims Config.default 0x37 .write 0x0001 = false ∧ cartClaims Config.default 0x37 .read 0x0001 = false ∧
    cartClaims { Config.default with cart := some [⟨0x8000, 0x9FFF, 0x03, 0x03, true, true⟩] } 0x37 .write 0x0001 = false ∧
    (0x0000 : Addr) ≠ 0x0001 := by decide

/-- Every value of `latch[2:0]` is a row's, and each window's clause is met at both its ends. -/
theorem witness_BankMapTable :
    (∀ k, k < 8 → ∃ row ∈ bankTable, (0x30 + k) % 8 = row.1) ∧
    windowMap 0x37 0x9FFF = none ∧ windowMap 0x37 0xA000 = some (.rom .basic) ∧ windowMap 0x37 0xBFFF = some (.rom .basic) ∧
    windowMap 0x37 0xC000 = none ∧ windowMap 0x37 0xCFFF = none ∧ windowMap 0x37 0xD000 = some .io ∧
    windowMap 0x33 0xDFFF = some (.rom .char) ∧ windowMap 0x35 0xE000 = some .ram ∧ windowMap 0x36 0xFFFF = some (.rom .kernal) := by
  decide

theorem witness_WriteThenRead :
    owner Config.default 0x37 .read 0xA000 = .ram ∧ owner Config.default 0x37 .write 0xA000 = .ram ∧
    (0xA001 : Addr) ≠ 0xA000 := by decide

theorem witness_BankSwitchRoundTrip : ∀ latch, cartClaims State.reset.cfg latch .write 0x0001 = false := fun _ => rfl

/-- The pointer bytes of `($FF,X)` with `X = 0`, and of `($FF),Y`, lie at `$00FF` and `$0000`. -/
theorem witness_EffectiveAddresses :
    (0x00FF : Addr).toNat = ((0xFF : Byte).toNat + State.reset.x.toNat) % 256 ∧
    (0x0000 : Addr).toNat = ((0xFF : Byte).toNat + State.reset.x.toNat + 1) % 256 ∧
    (0x00FF : Addr).toNat = (0xFF : Byte).toNat ∧ (0x0000 : Addr).toNat = ((0xFF : Byte).toNat + 1) % 256 := by decide

/-- `($10),Y` with the pointer `$10FF` crosses a page for `Y = 1` and not for `Y = 0`. -/
theorem witness_PageCrossings :
    (∃ (s : State) (base : Addr), effAddr (.izy 0x10) s = base + BitVec.ofNat 16 s.y.toNat ∧ pageCycle (.mem (.izy 0x10)) s = 1) ∧
    (∃ (s : State) (base : Addr), effAddr (.izy 0x10) s = base + BitVec.ofNat 16 s.y.toNat ∧ pageCycle (.mem (.izy 0x10)) s = 0) ∧
    MemMode.izx 0x10 ∈ [MemMode.zp 0x10, .zpx 0x10, .zpy 0x10, .abs 0x1234, .izx 0x10] :=
  ⟨⟨{ start 0x0200 [] [(0x10, 0xFF), (0x11, 0x10)] with y := 0x01 }, 0x10FF, by decide⟩,
    ⟨start 0x0200 [] [(0x10, 0xFF), (0x11, 0x10)], 0x10FF, by decide⟩, by decide⟩

theorem witness_LoadOperand :
    (∀ z : Byte, owner Config.default 0x37 .read (zext16 z) = .ram ∨ owner Config.default 0x37 .read (zext16 z) = .latch) ∧
    owner Config.default 0x37 .read (effAddr (.abs 0xE000) State.reset) = .ram := by decide

/-- The state after reset with a peripheral at `$D400–$D7FF`. -/
def withPeripheral : State := { State.reset with cfg := { Config.default with peripherals := [⟨0xD400, 0xD7FF⟩] } }

/-- A reading, a storing and a modifying form whose address a peripheral answers, at both ends of its range. -/
theorem witness_DeviceAccessesOnceAndInOrder :
    (∃ f ∈ readingForms 0x10 0xD400, ∃ m, f.operand = .mem m ∧
      owner withPeripheral.cfg 0x37 .read (effAddr m withPeripheral) = .device (.peripheral 0)) ∧
    (∃ f ∈ storingForms 0x10 0xD7FF withPeripheral,
      owner withPeripheral.cfg 0x37 .write (effAddr f.1.operand withPeripheral) = .device (.peripheral 0)) ∧
    ∃ f ∈ modifyingForms 0x10 0xD400,
      owner withPeripheral.cfg 0x37 .read (effAddr f.operand withPeripheral) = .device (.peripheral 0) ∧
      owner withPeripheral.cfg 0x37 .write (effAddr f.operand withPeripheral) = .device (.peripheral 0) :=
  ⟨⟨⟨.ldaAbs 0xD400, 0xAD, 3, .mem (.abs 0xD400), 4⟩, by decide, _, rfl, by decide⟩,
    ⟨(⟨.staAbs 0xD7FF, 0x8D, 3, .abs 0xD7FF, 4⟩, 0x00), by decide, by decide⟩,
    ⟨⟨.incAbs 0xD400, 0xEE, 3, .abs 0xD400, 6⟩, by decide, by decide, by decide⟩⟩

/-- Every list of forms that an obligation ranges over has as many forms as 30_encoding.md R108 and 46_undocumented.md list. -/
theorem witness_forms (d8 : Byte) (a16 : Addr) :
    (ldaForms d8 a16).length = 8 ∧ (ldxForms d8 a16).length = 5 ∧ (ldyForms d8 a16).length = 5 ∧ (laxForms d8 a16).length = 6 ∧
    (staForms d8 a16).length = 7 ∧ (stxForms d8 a16).length = 3 ∧ (styForms d8 a16).length = 3 ∧ (saxForms d8 a16).length = 4 ∧
    (andForms d8 a16).length = 8 ∧ (oraForms d8 a16).length = 8 ∧ (eorForms d8 a16).length = 8 ∧ (bitForms d8 a16).length = 2 ∧
    (adcForms d8 a16).length = 8 ∧ (sbcForms d8 a16).length = 8 ∧ (cmpForms d8 a16).length = 8 ∧ (cpxForms d8 a16).length = 3 ∧
    (cpyForms d8 a16).length = 3 ∧ (incForms d8 a16).length = 4 ∧ (decForms d8 a16).length = 4 ∧ (aslForms d8 a16).length = 4 ∧
    (lsrForms d8 a16).length = 4 ∧ (rolForms d8 a16).length = 4 ∧ (rorForms d8 a16).length = 4 ∧ (dcpForms d8 a16).length = 7 ∧
    (iscForms d8 a16).length = 7 ∧ (sloForms d8 a16).length = 7 ∧ (rlaForms d8 a16).length = 7 ∧ (sreForms d8 a16).length = 7 ∧
    (rraForms d8 a16).length = 7 ∧ (compositePairs d8 a16).length = 24 ∧ (readingForms d8 a16).length = 80 ∧
    (∀ s, (storingForms d8 a16 s).length = 17) ∧ (modifyingForms d8 a16).length = 66 :=
  ⟨rfl, rfl, rfl, rfl, rfl, rfl, rfl, rfl, rfl, rfl, rfl, rfl, rfl, rfl, rfl, rfl, rfl, rfl, rfl, rfl, rfl, rfl, rfl, rfl, rfl, rfl, rfl,
    rfl, rfl, rfl, rfl, fun _ => rfl, rfl⟩

theorem witness_Loads : ∃ f ∈ ldaForms 0x10 0x1234, f.instr = .ldaAbx 0x1234 := by decide

theorem witness_Stores : ∃ f ∈ staForms 0x10 0x1234, f.instr = .staIzy 0x10 := by decide

/-- The byte at `$0100`, above `SP = $FF`. -/
theorem witness_StackInstructions :
    (0x42 : Byte) = busRead (cat 0x01 (0xFF + 1)) { start 0x0200 [] [(0x100, 0x42)] with sp := 0xFF } := by decide

theorem witness_LogicInstructions :
    (∃ f ∈ andForms 0x0F 0x1234, (0x00 : Byte) = State.reset.a &&& readValue f.operand State.reset) ∧
    (∃ f ∈ oraForms 0x0F 0x1234, (0x0F : Byte) = State.reset.a ||| readValue f.operand State.reset) ∧
    (∃ f ∈ eorForms 0x0F 0x1234, (0x0F : Byte) = State.reset.a ^^^ readValue f.operand State.reset) ∧
    (∃ f ∈ bitForms 0x0F 0x1234, (0x00 : Byte) = readValue f.operand State.reset) := by decide

theorem witness_AddAndSubtract :
    (∃ f ∈ adcForms 0x0F 0x1234, f.operand = .imm 0x0F ∧ adcBinary 0x00 0x0F false = ⟨0x0F, false, false, false, false⟩) ∧
    (∃ f ∈ sbcForms 0x0F 0x1234, f.operand = .imm 0x0F ∧
      decimal .nmos .sbc 0x15 0x0F false = decimal State.reset.cfg.decimal .sbc 0x15 0x0F false) := by decide

theorem witness_BinaryArithmetic : (1 : Nat) = (if true then 1 else 0) ∧ (0 : Nat) = (if false then 1 else 0) := by decide

/-- `58 + 46 + 1 = 105` and `12 − 21 = −9`: the digits and the result of both clauses. -/
theorem witness_DecimalArithmeticIsExact :
    (0x58 : Byte).toNat = 16 * 5 + 8 ∧ (0x46 : Byte).toNat = 16 * 4 + 6 ∧ (0x05 : Byte).toNat = 16 * 0 + 5 ∧
    10 * 0 + 5 = (10 * 5 + 8 + (10 * 4 + 6) + 1) % 100 ∧
    (0x12 : Byte).toNat = 16 * 1 + 2 ∧ (0x21 : Byte).toNat = 16 * 2 + 1 ∧ (0x91 : Byte).toNat = 16 * 9 + 1 ∧
    10 * 9 + 1 = (10 * 1 + 2 + 100 + 1 - 1 - (10 * 2 + 1)) % 100 := by decide

/-- `58 + 46 + 1` and `12 − 21` under `nmos`: every number that the two sequences name. -/
theorem witness_NmosDecimalSequences :
    (15 : Nat) = (0x58 : Byte).toNat % 16 + (0x46 : Byte).toNat % 16 + 1 ∧ (21 : Nat) = (if 10 ≤ 15 then (15 + 6) % 16 + 16 else 15) ∧
    (165 : Nat) = (0x58 : Byte).toNat / 16 * 16 + (0x46 : Byte).toNat / 16 * 16 + 21 ∧ (261 : Nat) = (if 160 ≤ 165 then 165 + 96 else 165) ∧
    (165 : Int) = ((0x58 : Byte) &&& 0xF0).toInt + ((0x46 : Byte) &&& 0xF0).toInt + 21 ∧
    (1 : Int) = ((0x12 : Byte).toNat % 16 : Nat) - ((0x21 : Byte).toNat % 16 : Nat) + 1 - 1 ∧
    (-15 : Int) = ((0x12 : Byte).toNat / 16 * 16 : Nat) - ((0x21 : Byte).toNat / 16 * 16 : Nat) + 1 ∧
    (-111 : Int) = (if (-15 : Int) < 0 then -15 - 96 else -15) := by decide

theorem witness_Compares :
    (∃ f ∈ cmpForms 0x40 0x1234, (0x40 : Byte) = readValue f.operand State.reset) ∧
    (∃ f ∈ cpxForms 0x40 0x1234, (0x40 : Byte) = readValue f.operand State.reset) ∧
    (∃ f ∈ cpyForms 0x40 0x1234, (0x40 : Byte) = readValue f.operand State.reset) := by decide

theorem witness_IncrementsAndDecrements :
    (∃ f ∈ incForms 0x10 0x1234, (0x01 : Byte) = memValue f.operand State.reset + 1) ∧
    (∃ f ∈ decForms 0x10 0x1234, (0xFF : Byte) = memValue f.operand State.reset - 1) := by decide

/-- `$81` shifted and rotated, bit by bit: left with 0 and 1 in, right with 0 and 1 in. -/
theorem witness_ShiftsAndRotates :
    (∀ k, k < 8 → (0x02 : Byte).getLsbD k = (if k = 0 then false else (0x81 : Byte).getLsbD (k - 1))) ∧
    (∀ k, k < 8 → (0x03 : Byte).getLsbD k = (if k = 0 then true else (0x81 : Byte).getLsbD (k - 1))) ∧
    (∀ k, k < 8 → (0x40 : Byte).getLsbD k = (if k = 7 then false else (0x81 : Byte).getLsbD (k + 1))) ∧
    (∀ k, k < 8 → (0xC0 : Byte).getLsbD k = (if k = 7 then true else (0x81 : Byte).getLsbD (k + 1))) ∧
    (∃ f ∈ aslForms 0x10 0x1234, (0x81 : Byte) = memValue f.operand (start 0x0200 [] [(0x10, 0x81)])) ∧
    (∃ f ∈ lsrForms 0x10 0x1234, (0x81 : Byte) = memValue f.operand (start 0x0200 [] [(0x10, 0x81)])) ∧
    (∃ f ∈ rolForms 0x10 0x1234, (0x81 : Byte) = memValue f.operand (start 0x0200 [] [(0x10, 0x81)])) ∧
    (∃ f ∈ rorForms 0x10 0x1234, (0x81 : Byte) = memValue f.operand (start 0x0200 [] [(0x10, 0x81)])) := by decide

/-- The high byte of `($30FF)` is at `$3000`. -/
theorem witness_Jumps : (0x3000 : Addr).toNat = (0x30FF : Addr).toNat / 256 * 256 + ((0x30FF : Addr).toNat + 1) % 256 := by decide

theorem witness_Subroutines : ∃ s u v : State,
    u = busWrite (cat 0x01 (s.sp - 1)) (lo (s.pc + 2)) (busWrite (cat 0x01 s.sp) (hi (s.pc + 2)) s) ∧
    v = afterRead (cat 0x01 (s.sp + 1)) s :=
  ⟨State.reset, _, _, rfl, rfl⟩

theorem witness_ReturnAfterCall :
    owner Config.default 0x37 .read (cat 0x01 0xFD) = .ram ∧ owner Config.default 0x37 .write (cat 0x01 0xFD) = .ram ∧
    owner Config.default 0x37 .read (cat 0x01 (0xFD - 1)) = .ram ∧ owner Config.default 0x37 .write (cat 0x01 (0xFD - 1)) = .ram := by
  decide

/-- `-2` from `$0200`, and `+2` from `$FFFE`, which wraps. -/
theorem witness_Branches :
    ((0x0200 : Addr).toNat : Int) = (((0x0200 : Addr).toNat : Int) + 2 + (0xFE : Byte).toInt) % 65536 ∧
    ((0x0002 : Addr).toNat : Int) = (((0xFFFE : Addr).toNat : Int) + 2 + (0x02 : Byte).toInt) % 65536 ∧
    (Instr.bvs 0xFE, (0x70 : Byte), false) ∈
      [(Instr.bcc 0xFE, (0x90 : Byte), true), (.bcs 0xFE, 0xB0, false), (.beq 0xFE, 0xF0, false), (.bne 0xFE, 0xD0, true),
        (.bmi 0xFE, 0x30, false), (.bpl 0xFE, 0x10, true), (.bvc 0xFE, 0x50, true), (.bvs 0xFE, 0x70, false)] := by decide

theorem witness_BreakTakesTheInterrupt : ∃ s u : State, u = framePushed (s.pc + 2) (pByte true s) s := ⟨State.reset, _, rfl⟩

theorem witness_ReturnFromInterrupt : ∃ (s t u : State) (p : Byte),
    p = busRead (cat 0x01 (s.sp + 1)) s ∧ t = afterRead (cat 0x01 (s.sp + 1)) s ∧ u = afterRead (cat 0x01 (s.sp + 2)) t :=
  ⟨State.reset, _, _, _, rfl, rfl, rfl⟩

theorem witness_ReturnUndoesEntry :
    ∀ a ∈ frameAddrs { State.reset with sp := 0x00 }, ramBacked { State.reset with sp := 0x00 } a :=
  List.forall_mem_cons.mpr ⟨⟨rfl, rfl⟩, List.forall_mem_cons.mpr
    ⟨⟨rfl, rfl⟩, List.forall_mem_cons.mpr ⟨⟨rfl, rfl⟩, by simp⟩⟩⟩

/-- On `$81`, with the carry clear: the new byte of each composite's definition. -/
theorem witness_Composites :
    (0x81 : Byte) = memValue (.zp 0x10) (start 0x0200 [] [(0x10, 0x81)]) ∧ (0x80 : Byte) = 0x81 - 1 ∧ (0x82 : Byte) = 0x81 + 1 ∧
    (0x02 : Byte).toNat = (0x81 : Byte).toNat * 2 % 256 ∧
    (0x02 : Byte).toNat = ((0x81 : Byte).toNat * 2 + (if State.reset.c then 1 else 0)) % 256 ∧
    (0x40 : Byte).toNat = (0x81 : Byte).toNat / 2 ∧
    (0x40 : Byte).toNat = (0x81 : Byte).toNat / 2 + (if State.reset.c then 128 else 0) ∧
    adcBinary 0x00 0x40 true = ⟨0x41, false, false, false, false⟩ := by decide

theorem witness_CompositesAreSequences : ∃ q ∈ compositePairs 0x10 0x1234,
    owner Config.default 0x37 .read (effAddr q.2.2.2 State.reset) = .ram ∧
    owner Config.default 0x37 .write (effAddr q.2.2.2 State.reset) = .ram := by decide

/-- From the faulted state too. -/
theorem witness_ResetTransition : ∃ s u : State, s.fault = some (0x02, 0x0200) ∧ u = resetRegisters s :=
  ⟨{ State.reset with fault := some (0x02, 0x0200) }, _, rfl, rfl⟩

theorem witness_SnapshotRoundTrip : State.reset.fault = none := rfl

/-- Each clause: a fault, a true predicate, a breakpoint, a step for the first time at a breakpoint and a later one away from all, and a
slice that is used up. -/
theorem witness_BreakpointsAndSlices :
    { State.reset with fault := some (0x02, 0x0200) }.fault = some (0x02, 0x0200) ∧
    ((start 0x0200 [0xEA] []).fault = none ∧ (start 0x0200 [0xEA] []).pc ∈ [0x0200] ∧ (start 0x0200 [0xEA] []).pc ∉ [0x0201]) ∧
    (∃ t, step (environments [.irqSignals [true]] (start 0x0200 [0xEA] [])) = .next t) ∧
    runUntil (fun _ => false) [0x0200] [] false (start 0x0200 [] []) = (.breakpoint 0x0200, start 0x0200 [] []) ∧
    runUntil (fun _ => false) [] [] true (start 0x0200 [] []) = (.sliceEnd, start 0x0200 [] []) :=
  ⟨rfl, by decide, ⟨_, rfl⟩, rfl, rfl⟩

/-- What the environment does after a step is seen by the predicate, what it does before a step by the step (R321). -/
theorem test_environment_around_a_step :
    (runUntil (fun s => s.nmiPending) [] [⟨[], [.nmiRequest]⟩] true (start 0x0200 [0xEA] [])).1 = .stopped ∧
    (runUntil (fun s => s.nmiPending) [] [⟨[.nmiRequest], []⟩] true (start 0x0200 [0xEA] [])).1 = .sliceEnd := by decide

/-- One `NOP` reaches `END = $0201`, unless the run begins at a trap or `END` is one (R316). -/
theorem test_end_of_a_run :
    (Safety.endState 0x0201 [0x0300] [⟨[], []⟩] (start 0x0200 [0xEA] [])).isSome = true ∧
    Safety.endState 0x0201 [0x0200] [⟨[], []⟩] (start 0x0200 [0xEA] []) = none ∧
    Safety.endState 0x0201 [0x0201] [⟨[], []⟩] (start 0x0200 [0xEA] []) = none := by decide

/-- A step that adds cycles, a step that raises the fault, a faulted state. -/
theorem witness_HostStepReports :
    (∃ t, hostStep (start 0x0200 [0xEA] []) = (.consumed 2, t)) ∧
    (∃ t, step (start 0x0200 [0xEA] []) = .next t ∧ t.fault = none) ∧
    (∃ t, step (start 0x0200 [0x02] []) = .next t ∧ t.fault = some (0x02, 0x0200)) ∧
    ∃ s op pc, s.cfg.wellFormed = true ∧ State.fault s = some (op, pc) :=
  ⟨⟨_, rfl⟩, ⟨_, rfl, rfl⟩, ⟨_, rfl, rfl⟩, ⟨{ State.reset with fault := some (0x02, 0x0200) }, _, _, rfl, rfl⟩⟩

/-- Single register and flag edits (R322): each item gets its own value. -/
theorem test_register_edits :
    (editRegister (.x 0x11) (editRegister (.a 0x22) (editRegister (.y 0x33) State.reset))).x = 0x11 ∧
    (editRegister (.x 0x11) (editRegister (.a 0x22) (editRegister (.y 0x33) State.reset))).a = 0x22 ∧
    (editRegister (.x 0x11) (editRegister (.a 0x22) (editRegister (.y 0x33) State.reset))).y = 0x33 ∧
    pByte false (editRegister (.flag .v true) (editRegister (.flag .i false) State.reset)) = 0x60 := by decide

/-- A host write of RAM is the byte itself, also under the latch; the memory edit goes through the bus (R40, R323). -/
theorem test_host_writes :
    ramRead (editState (.ram 0x0001 0x42) State.reset).ram 1 = 0x42 ∧ (editState (.ram 0x0001 0x42) State.reset).latch = 0x37 ∧
    (editMemory 0x0001 0x42 State.reset).latch = 0x42 ∧ (editState (.cycles 7) State.reset).cycles = 7 := by decide

end Sys2Proof.Tests
end

section
/-! The rule of each instruction by its mnemonic, as a function of the state, and what the rules change: cycles, flags, registers, memory,
and nothing outside the core. -/

namespace Sys2Proof.Proofs

open Sys2Proof.Machine Sys2Proof.Claims Sys2Proof.Safety

/-- What a mnemonic that reads its operand does with the byte (R130–R132, R160–R172, R241). -/
inductive Reads : Mnemonic → (Byte → State → State) → Prop where
  | lda : Reads .lda loadA
  | ldx : Reads .ldx loadX
  | ldy : Reads .ldy loadY
  | lax : Reads .lax loadAX
  | and : Reads .and andA
  | ora : Reads .ora oraA
  | eor : Reads .eor eorA
  | bit : Reads .bit bitTest
  | adc : Reads .adc adcA
  | sbc : Reads .sbc sbcA
  | cmp : Reads .cmp cmpA
  | cpx : Reads .cpx cmpX
  | cpy : Reads .cpy cmpY

/-- The byte a store writes (R133–R135, R242). -/
inductive Stores : Mnemonic → (State → Byte) → Prop where
  | sta : Stores .sta State.a
  | stx : Stores .stx State.x
  | sty : Stores .sty State.y
  | sax : Stores .sax fun s => s.a &&& s.x

/-- How a mnemonic that increments or decrements memory changes the byte, and what it does with the new one (R180, R183, R243, R244). -/
inductive Modifies : Mnemonic → (Byte → Byte) → (Byte → State → State) → Prop where
  | inc : Modifies .inc (fun b => b + 1) setNZ
  | dec : Modifies .dec (fun b => b - 1) setNZ
  | dcp : Modifies .dcp (fun b => b - 1) cmpA
  | isc : Modifies .isc (fun b => b + 1) sbcA

/-- How a mnemonic that shifts or rotates changes the byte, and what it does with the new one (R186–R189, R245–R248). -/
inductive Shifts : Mnemonic → (Byte → Bool → Byte × Bool) → (Byte → State → State) → Prop where
  | asl : Shifts .asl shiftLeft setNZ
  | lsr : Shifts .lsr shiftRight setNZ
  | rol : Shifts .rol rotateLeft setNZ
  | ror : Shifts .ror rotateRight setNZ
  | slo : Shifts .slo shiftLeft oraA
  | rla : Shifts .rla rotateLeft andA
  | sre : Shifts .sre shiftRight eorA
  | rra : Shifts .rra rotateRight adcA

/-- What a one-byte mnemonic without a bus access does (R140–R145, R181, R182, R184, R185, R220–R227). -/
inductive Sets : Mnemonic → (State → State) → Prop where
  | tax : Sets .tax fun s => loadX s.a s
  | tay : Sets .tay fun s => loadY s.a s
  | txa : Sets .txa fun s => loadA s.x s
  | tya : Sets .tya fun s => loadA s.y s
  | tsx : Sets .tsx fun s => loadX s.sp s
  | txs : Sets .txs setSpFromX
  | inx : Sets .inx fun s => loadX (s.x + 1) s
  | iny : Sets .iny fun s => loadY (s.y + 1) s
  | dex : Sets .dex fun s => loadX (s.x - 1) s
  | dey : Sets .dey fun s => loadY (s.y - 1) s
  | clc : Sets .clc (setC false)
  | sec : Sets .sec (setC true)
  | cli : Sets .cli (setI false)
  | sei : Sets .sei (setI true)
  | cld : Sets .cld (setD false)
  | sed : Sets .sed (setD true)
  | clv : Sets .clv (setV false)
  | nop : Sets .nop id

/-- The byte a push puts on the stack (R146, R147). -/
inductive Pushes : Mnemonic → (State → Byte) → Prop where
  | pha : Pushes .pha State.a
  | php : Pushes .php (pByte true)

/-- What a pull does (R148, R149). -/
inductive Pulls : Mnemonic → (State → State) → Prop where
  | pla : Pulls .pla pullA
  | plp : Pulls .plp pullP

/-- When a branch is taken (R205–R212). -/
inductive Branches : Mnemonic → (State → Bool) → Prop where
  | bcc : Branches .bcc fun s => !s.c
  | bcs : Branches .bcs fun s => s.c
  | beq : Branches .beq fun s => s.z
  | bne : Branches .bne fun s => !s.z
  | bmi : Branches .bmi fun s => s.n
  | bpl : Branches .bpl fun s => !s.n
  | bvc : Branches .bvc fun s => !s.v
  | bvs : Branches .bvs fun s => s.v

/-- The most cycles an instruction may take: only the optional composites reach 8 (70_reset_and_hazards.md R315). -/
def maxCycles (i : Instr) : Nat := if i.optional then 8 else 7

/-- The rules of a mnemonic, as functions of the state, with at most `top` cycles. `Ends` lists the next states from one state and forgets
the mnemonic; what depends on the mnemonic, or compares the runs from two states, is proved by these cases. -/
inductive Rule (top : Nat) : Mnemonic → (State → State) → Prop where
  | reading {mn use} (h : Reads mn use) (o : ReadOperand) (base : Nat) (hlo : 2 ≤ base) (hhi : base ≤ 6) :
      Rule top mn fun s => advance (readLength o) (base + pageCycle o s) (use (readValue o s) (afterLoad o s))
  | storing {mn byte} (h : Stores mn byte) (m : MemMode) (base : Nat) (hlo : 2 ≤ base) (hhi : base ≤ 6) :
      Rule top mn fun s => advance (memLength m) base (busWrite (effAddr m s) (byte s) (afterPointer m s))
  | modifying {mn change use} (h : Modifies mn change use) (m : MemMode) (base : Nat) (hlo : 2 ≤ base) (hhi : base ≤ top) :
      Rule top mn fun s => advance (rmwLength (.mem m)) base
        (use (change (rmwValue (.mem m) s)) (rmwStore (.mem m) (change (rmwValue (.mem m) s)) s))
  | shifting {mn shift use} (h : Shifts mn shift use) (o : RmwOperand) (base : Nat) (hlo : 2 ≤ base) (hhi : base ≤ top) :
      Rule top mn fun s => advance (rmwLength o) base
        (use (shift (rmwValue o s) s.c).1 (setC (shift (rmwValue o s) s.c).2 (rmwStore o (shift (rmwValue o s) s.c).1 s)))
  | registers {mn use} (h : Sets mn use) : Rule top mn fun s => advance 1 2 (use s)
  | pushing {mn byte} (h : Pushes mn byte) : Rule top mn fun s => advance 1 3 (push (byte s) s)
  | pulling {mn use} (h : Pulls mn use) : Rule top mn fun s => advance 1 4 (use s)
  | branching {mn taken} (h : Branches mn taken) (d8 : Byte) :
      Rule top mn fun s => if taken s then jumpTo (branchTarget d8 s) (takenCycles d8 s) s else jumpTo (s.pc + 2) 2 s
  | jumping (a16 : Addr) : Rule top .jmp fun s => jumpTo a16 3 s
  | indirect (a16 : Addr) :
      Rule top .jmp fun s => jumpTo (indPointer a16 s) 5 (afterRead (indHighAddr a16) (afterRead a16 s))
  | calling (a16 : Addr) : Rule top .jsr fun s => jumpTo a16 6 (pushReturn s)
  | returning : Rule top .rts fun s => jumpTo (cat (pullByte (afterPull s)) (pullByte s) + 1) 6 (afterPull (afterPull s))
  | breaking : Rule top .brk fun s => takeException (s.pc + 2) true vecIrq s
  | restoring : Rule top .rti returnFromException

/-- Every instruction answers what a rule of its mnemonic gives, from every state. -/
theorem exec_rule (i : Instr) : ∃ f, (∀ s, exec i s = .next (f s)) ∧ Rule (maxCycles i) (mnemonic i) f :=
  match i with
  | .ldaIzx _ | .ldaZp _ | .ldaImm _ | .ldaAbs _ | .ldaIzy _ | .ldaZpx _ | .ldaAby _ | .ldaAbx _ =>
    ⟨_, fun _ => rfl, .reading .lda _ _ (by decide) (by decide)⟩
  | .ldxImm _ | .ldxZp _ | .ldxAbs _ | .ldxZpy _ | .ldxAby _ => ⟨_, fun _ => rfl, .reading .ldx _ _ (by decide) (by decide)⟩
  | .ldyImm _ | .ldyZp _ | .ldyAbs _ | .ldyZpx _ | .ldyAbx _ => ⟨_, fun _ => rfl, .reading .ldy _ _ (by decide) (by decide)⟩
  | .staIzx _ | .staZp _ | .staAbs _ | .staIzy _ | .staZpx _ | .staAby _ | .staAbx _ =>
    ⟨_, fun _ => rfl, .storing .sta _ _ (by decide) (by decide)⟩
  | .stxZp _ | .stxAbs _ | .stxZpy _ => ⟨_, fun _ => rfl, .storing .stx _ _ (by decide) (by decide)⟩
  | .styZp _ | .styAbs _ | .styZpx _ => ⟨_, fun _ => rfl, .storing .sty _ _ (by decide) (by decide)⟩
  | .tax => ⟨_, fun _ => rfl, .registers .tax⟩
  | .tay => ⟨_, fun _ => rfl, .registers .tay⟩
  | .txa => ⟨_, fun _ => rfl, .registers .txa⟩
  | .tya => ⟨_, fun _ => rfl, .registers .tya⟩
  | .tsx => ⟨_, fun _ => rfl, .registers .tsx⟩
  | .txs => ⟨_, fun _ => rfl, .registers .txs⟩
  | .pha => ⟨_, fun _ => rfl, .pushing .pha⟩
  | .php => ⟨_, fun _ => rfl, .pushing .php⟩
  | .pla => ⟨_, fun _ => rfl, .pulling .pla⟩
  | .plp => ⟨_, fun _ => rfl, .pulling .plp⟩
  | .andIzx _ | .andZp _ | .andImm _ | .andAbs _ | .andIzy _ | .andZpx _ | .andAby _ | .andAbx _ =>
    ⟨_, fun _ => rfl, .reading .and _ _ (by decide) (by decide)⟩
  | .oraIzx _ | .oraZp _ | .oraImm _ | .oraAbs _ | .oraIzy _ | .oraZpx _ | .oraAby _ | .oraAbx _ =>
    ⟨_, fun _ => rfl, .reading .ora _ _ (by decide) (by decide)⟩
  | .eorIzx _ | .eorZp _ | .eorImm _ | .eorAbs _ | .eorIzy _ | .eorZpx _ | .eorAby _ | .eorAbx _ =>
    ⟨_, fun _ => rfl, .reading .eor _ _ (by decide) (by decide)⟩
  | .bitZp _ | .bitAbs _ => ⟨_, fun _ => rfl, .reading .bit _ _ (by decide) (by decide)⟩
  | .adcIzx _ | .adcZp _ | .adcImm _ | .adcAbs _ | .adcIzy _ | .adcZpx _ | .adcAby _ | .adcAbx _ =>
    ⟨_, fun _ => rfl, .reading .adc _ _ (by decide) (by decide)⟩
  | .sbcIzx _ | .sbcZp _ | .sbcImm _ | .sbcAbs _ | .sbcIzy _ | .sbcZpx _ | .sbcAby _ | .sbcAbx _ =>
    ⟨_, fun _ => rfl, .reading .sbc _ _ (by decide) (by decide)⟩
  | .cmpIzx _ | .cmpZp _ | .cmpImm _ | .cmpAbs _ | .cmpIzy _ | .cmpZpx _ | .cmpAby _ | .cmpAbx _ =>
    ⟨_, fun _ => rfl, .reading .cmp _ _ (by decide) (by decide)⟩
  | .cpxImm _ | .cpxZp _ | .cpxAbs _ => ⟨_, fun _ => rfl, .reading .cpx _ _ (by decide) (by decide)⟩
  | .cpyImm _ | .cpyZp _ | .cpyAbs _ => ⟨_, fun _ => rfl, .reading .cpy _ _ (by decide) (by decide)⟩
  | .incZp _ | .incAbs _ | .incZpx _ | .incAbx _ => ⟨_, fun _ => rfl, .modifying .inc _ _ (by decide) (Nat.le_of_ble_eq_true rfl)⟩
  | .inx => ⟨_, fun _ => rfl, .registers .inx⟩
  | .iny => ⟨_, fun _ => rfl, .registers .iny⟩
  | .decZp _ | .decAbs _ | .decZpx _ | .decAbx _ => ⟨_, fun _ => rfl, .modifying .dec _ _ (by decide) (Nat.le_of_ble_eq_true rfl)⟩
  | .dex => ⟨_, fun _ => rfl, .registers .dex⟩
  | .dey => ⟨_, fun _ => rfl, .registers .dey⟩
  | .aslZp _ | .aslAcc | .aslAbs _ | .aslZpx _ | .aslAbx _ =>
    ⟨_, fun _ => rfl, .shifting .asl _ _ (by decide) (Nat.le_of_ble_eq_true rfl)⟩
  | .lsrZp _ | .lsrAcc | .lsrAbs _ | .lsrZpx _ | .lsrAbx _ =>
    ⟨_, fun _ => rfl, .shifting .lsr _ _ (by decide) (Nat.le_of_ble_eq_true rfl)⟩
  | .rolZp _ | .rolAcc | .rolAbs _ | .rolZpx _ | .rolAbx _ =>
    ⟨_, fun _ => rfl, .shifting .rol _ _ (by decide) (Nat.le_of_ble_eq_true rfl)⟩
  | .rorZp _ | .rorAcc | .rorAbs _ | .rorZpx _ | .rorAbx _ =>
    ⟨_, fun _ => rfl, .shifting .ror _ _ (by decide) (Nat.le_of_ble_eq_true rfl)⟩
  | .jmpAbs _ => ⟨_, fun _ => rfl, .jumping _⟩
  | .jmpInd _ => ⟨_, fun _ => rfl, .indirect _⟩
  | .jsr _ => ⟨_, fun _ => rfl, .calling _⟩
  | .rts => ⟨_, fun _ => rfl, .returning⟩
  | .bcc _ => ⟨_, fun _ => rfl, .branching .bcc _⟩
  | .bcs _ => ⟨_, fun _ => rfl, .branching .bcs _⟩
  | .beq _ => ⟨_, fun _ => rfl, .branching .beq _⟩
  | .bne _ => ⟨_, fun _ => rfl, .branching .bne _⟩
  | .bmi _ => ⟨_, fun _ => rfl, .branching .bmi _⟩
  | .bpl _ => ⟨_, fun _ => rfl, .branching .bpl _⟩
  | .bvc _ => ⟨_, fun _ => rfl, .branching .bvc _⟩
  | .bvs _ => ⟨_, fun _ => rfl, .branching .bvs _⟩
  | .clc => ⟨_, fun _ => rfl, .registers .clc⟩
  | .sec => ⟨_, fun _ => rfl, .registers .sec⟩
  | .cli => ⟨_, fun _ => rfl, .registers .cli⟩
  | .sei => ⟨_, fun _ => rfl, .registers .sei⟩
  | .cld => ⟨_, fun _ => rfl, .registers .cld⟩
  | .sed => ⟨_, fun _ => rfl, .registers .sed⟩
  | .clv => ⟨_, fun _ => rfl, .registers .clv⟩
  | .nop => ⟨_, fun _ => rfl, .registers .nop⟩
  | .brk => ⟨_, fun _ => rfl, .breaking⟩
  | .rti => ⟨_, fun _ => rfl, .restoring⟩
  | .laxZp _ | .laxZpy _ | .laxAbs _ | .laxAby _ | .laxIzx _ | .laxIzy _ =>
    ⟨_, fun _ => rfl, .reading .lax _ _ (by decide) (by decide)⟩
  | .saxZp _ | .saxZpy _ | .saxAbs _ | .saxIzx _ => ⟨_, fun _ => rfl, .storing .sax _ _ (by decide) (by decide)⟩
  | .dcpZp _ | .dcpZpx _ | .dcpAbs _ | .dcpAbx _ | .dcpAby _ | .dcpIzx _ | .dcpIzy _ =>
    ⟨_, fun _ => rfl, .modifying .dcp _ _ (by decide) (Nat.le_of_ble_eq_true rfl)⟩
  | .iscZp _ | .iscZpx _ | .iscAbs _ | .iscAbx _ | .iscAby _ | .iscIzx _ | .iscIzy _ =>
    ⟨_, fun _ => rfl, .modifying .isc _ _ (by decide) (Nat.le_of_ble_eq_true rfl)⟩
  | .sloZp _ | .sloZpx _ | .sloAbs _ | .sloAbx _ | .sloAby _ | .sloIzx _ | .sloIzy _ =>
    ⟨_, fun _ => rfl, .shifting .slo _ _ (by decide) (Nat.le_of_ble_eq_true rfl)⟩
  | .rlaZp _ | .rlaZpx _ | .rlaAbs _ | .rlaAbx _ | .rlaAby _ | .rlaIzx _ | .rlaIzy _ =>
    ⟨_, fun _ => rfl, .shifting .rla _ _ (by decide) (Nat.le_of_ble_eq_true rfl)⟩
  | .sreZp _ | .sreZpx _ | .sreAbs _ | .sreAbx _ | .sreAby _ | .sreIzx _ | .sreIzy _ =>
    ⟨_, fun _ => rfl, .shifting .sre _ _ (by decide) (Nat.le_of_ble_eq_true rfl)⟩
  | .rraZp _ | .rraZpx _ | .rraAbs _ | .rraAbx _ | .rraAby _ | .rraIzx _ | .rraIzy _ =>
    ⟨_, fun _ => rfl, .shifting .rra _ _ (by decide) (Nat.le_of_ble_eq_true rfl)⟩

/-- The next state an instruction answers is what a rule of its mnemonic gives. -/
theorem rule_of_exec {i : Instr} {s t : State} (h : exec i s = .next t) :
    ∃ f, (∀ u, exec i u = .next (f u)) ∧ Rule (maxCycles i) (mnemonic i) f ∧ t = f s := by
  obtain ⟨f, hf, hr⟩ := exec_rule i
  rw [hf s] at h
  cases h
  exact ⟨f, hf, hr, rfl⟩

/-! ### What a rule changes -/

theorem seven_le_maxCycles (i : Instr) : 7 ≤ maxCycles i := by
  unfold maxCycles
  split <;> decide

theorem maxCycles_le (i : Instr) : maxCycles i ≤ 8 := by
  unfold maxCycles
  split <;> decide

theorem maxCycles_of_documented {i : Instr} (h : i.optional = false) : maxCycles i = 7 := by
  simp [maxCycles, h]

theorem takenCycles_bounds (d8 : Byte) (s : State) : 2 ≤ takenCycles d8 s ∧ takenCycles d8 s ≤ 4 := by
  unfold takenCycles
  split <;> decide

/-- A rule adds from 2 to `top` cycles. -/
theorem Rule.cycles {top mn f} (h : Rule top mn f) (htop : 7 ≤ top) (s : State) :
    s.cycles + 2 ≤ (f s).cycles ∧ (f s).cycles ≤ s.cycles + top := by
  cases h with
  | reading h o =>
    have hp := pageCycle_le o s
    cases h <;> simp <;> omega
  | modifying h | shifting h | registers h | pulling h => cases h <;> simp <;> omega
  | branching h d8 =>
    have hb := takenCycles_bounds d8 s
    dsimp only
    split <;> simp <;> omega
  | breaking => simp [intCycles]; omega
  | storing | pushing | jumping | indirect | calling | returning | restoring => simp; omega

/-- No rule touches the interrupt latches, the fault record, the signals, the configuration or the counter of free values. -/
theorem Rule.outside {top mn f} (h : Rule top mn f) (s : State) :
    (f s).nmiPending = s.nmiPending ∧ (f s).irqPending = s.irqPending ∧ (f s).fault = s.fault ∧
    (f s).irqSignals = s.irqSignals ∧ (f s).cfg = s.cfg ∧ (f s).freeCount = s.freeCount := by
  cases h with
  | reading h | modifying h | shifting h | registers h | pulling h => cases h <;> simp
  | branching =>
    dsimp only
    split <;> simp
  | storing | pushing | jumping | indirect | calling | returning | breaking | restoring => simp

/-- A rule writes a flag only where R29 lists its mnemonic for it. -/
theorem Rule.flags {top mn f} (h : Rule top mn f) (s : State) :
    (mn ∉ nzWriters → (f s).n = s.n ∧ (f s).z = s.z) ∧ (mn ∉ cWriters → (f s).c = s.c) ∧ (mn ∉ vWriters → (f s).v = s.v) ∧
    (mn ∉ dWriters → (f s).d = s.d) ∧ (mn ∉ iWriters → (f s).i = s.i) := by
  cases h with
  | reading h | modifying h | shifting h | registers h | pulling h =>
    cases h <;> simp [nzWriters, cWriters, vWriters, dWriters, iWriters]
  | branching =>
    dsimp only
    split <;> simp
  | breaking | restoring => simp [nzWriters, cWriters, vWriters, dWriters, iWriters]
  | storing | pushing | jumping | indirect | calling | returning => simp

/-- A rule writes a register or memory only where its mnemonic is listed for it. -/
theorem Rule.registersAndMemory {top mn f} (h : Rule top mn f) (s : State) :
    (mn ∉ aWriters → (f s).a = s.a) ∧ (mn ∉ xWriters → (f s).x = s.x) ∧ (mn ∉ yWriters → (f s).y = s.y) ∧
    (mn ∉ spWriters → (f s).sp = s.sp) ∧ (mn ∉ memoryWriters → (f s).ram = s.ram ∧ (f s).latch = s.latch) := by
  cases h with
  | reading h | storing h | modifying h | shifting h | registers h | pushing h | pulling h =>
    cases h <;> simp [aWriters, xWriters, yWriters, spWriters, memoryWriters]
  | branching =>
    dsimp only
    split <;> simp
  | calling | returning | breaking | restoring => simp [spWriters, memoryWriters]
  | jumping | indirect => simp

/-- A rule keeps RAM's canonical form. -/
theorem Rule.ram_wf {top mn f} (h : Rule top mn f) {s : State} (hs : Memory.wf s.ram) : Memory.wf (f s).ram := by
  cases h with
  | reading h => cases h <;> simpa using hs
  | storing h m => simpa using ramAfterWrite_wf _ _ _ (by simpa using hs)
  | modifying h m => cases h <;> simpa using rmwStore_wf _ _ s hs
  | shifting h o => cases h <;> simpa using rmwStore_wf _ _ s hs
  | registers h | pulling h => cases h <;> simpa using hs
  | pushing h => exact push_wf _ s hs
  | branching =>
    dsimp only
    split <;> exact hs
  | calling => exact push_wf _ _ (push_wf _ _ hs)
  | breaking => exact takeException_wf _ _ _ s hs
  | jumping | indirect | returning | restoring => simpa using hs

/-- No instruction touches the interrupt latches, the fault record, the signals, the configuration or the counter of free values. -/
theorem exec_outside {i : Instr} {s t : State} (h : exec i s = .next t) :
    t.nmiPending = s.nmiPending ∧ t.irqPending = s.irqPending ∧ t.fault = s.fault ∧ t.irqSignals = s.irqSignals ∧ t.cfg = s.cfg ∧
    t.freeCount = s.freeCount := by
  obtain ⟨f, _, hrule, rfl⟩ := rule_of_exec h
  exact hrule.outside s

/-- An instruction adds from 2 to `maxCycles` cycles (10_state.md R30). -/
theorem exec_cycles {i : Instr} {s t : State} (h : exec i s = .next t) :
    s.cycles + 2 ≤ t.cycles ∧ t.cycles ≤ s.cycles + maxCycles i := by
  obtain ⟨f, _, hrule, rfl⟩ := rule_of_exec h
  exact hrule.cycles (seven_le_maxCycles i) s

/-- An instruction keeps RAM's canonical form. -/
theorem exec_ram_wf {i : Instr} {s t : State} (h : exec i s = .next t) (hs : Memory.wf s.ram) : Memory.wf t.ram := by
  obtain ⟨f, _, hrule, rfl⟩ := rule_of_exec h
  exact hrule.ram_wf hs

end Sys2Proof.Proofs
end

section
/-! An instruction run from two states that differ only in the interrupt latches, the devices' signals and the cycle counter. -/

namespace Sys2Proof.Proofs

open Sys2Proof.Machine Sys2Proof.Claims Sys2Proof.Safety

/-- Interrupt latches, device signals and a delay: what two runs of one instruction may differ in. -/
structure Outside where
  nmi : Bool
  irq : Bool
  signals : List Bool
  delay : Nat

/-- `s` with these latches and signals, that many cycles later. -/
def elsewhen (w : Outside) (s : State) : State :=
  { s with nmiPending := w.nmi, irqPending := w.irq, irqSignals := w.signals, cycles := s.cycles + w.delay }

section
variable (w : Outside) (s : State)

@[simp] theorem busRead_elsewhen (a : Addr) : busRead a (elsewhen w s) = busRead a s := rfl
@[simp] theorem afterRead_elsewhen (a : Addr) : afterRead a (elsewhen w s) = elsewhen w (afterRead a s) := rfl
@[simp] theorem busWrite_elsewhen (a : Addr) (b : Byte) : busWrite a b (elsewhen w s) = elsewhen w (busWrite a b s) := rfl
@[simp] theorem push_elsewhen (b : Byte) : push b (elsewhen w s) = elsewhen w (push b s) := rfl
@[simp] theorem pullByte_elsewhen : pullByte (elsewhen w s) = pullByte s := rfl
@[simp] theorem afterPull_elsewhen : afterPull (elsewhen w s) = elsewhen w (afterPull s) := rfl
@[simp] theorem pByte_elsewhen (b : Bool) : pByte b (elsewhen w s) = pByte b s := rfl
@[simp] theorem setP_elsewhen (p : Byte) : setP p (elsewhen w s) = elsewhen w (setP p s) := rfl
@[simp] theorem setC_elsewhen (b : Bool) : setC b (elsewhen w s) = elsewhen w (setC b s) := rfl
@[simp] theorem setI_elsewhen (b : Bool) : setI b (elsewhen w s) = elsewhen w (setI b s) := rfl
@[simp] theorem elsewhen_c : (elsewhen w s).c = s.c := rfl
@[simp] theorem elsewhen_pc : (elsewhen w s).pc = s.pc := rfl

@[simp] theorem advance_elsewhen (len k : Nat) : advance len k (elsewhen w s) = elsewhen w (advance len k s) := by
  simp [advance, elsewhen, Nat.add_right_comm]

@[simp] theorem jumpTo_elsewhen (a : Addr) (k : Nat) : jumpTo a k (elsewhen w s) = elsewhen w (jumpTo a k s) := by
  simp [jumpTo, elsewhen, Nat.add_right_comm]

@[simp] theorem effAddr_elsewhen (m : MemMode) : effAddr m (elsewhen w s) = effAddr m s := by
  cases m <;> rfl

@[simp] theorem afterPointer_elsewhen (m : MemMode) : afterPointer m (elsewhen w s) = elsewhen w (afterPointer m s) := by
  cases m <;> rfl

@[simp] theorem pageCrossed_elsewhen (m : MemMode) : pageCrossed m (elsewhen w s) = pageCrossed m s := by
  cases m <;> rfl

@[simp] theorem pageCycle_elsewhen (o : ReadOperand) : pageCycle o (elsewhen w s) = pageCycle o s := by
  cases o <;> simp [pageCycle]

@[simp] theorem readValue_elsewhen (o : ReadOperand) : readValue o (elsewhen w s) = readValue o s := by
  cases o <;> simp [readValue, memValue]

@[simp] theorem afterLoad_elsewhen (o : ReadOperand) : afterLoad o (elsewhen w s) = elsewhen w (afterLoad o s) := by
  cases o <;> simp [afterLoad, afterMemRead]

@[simp] theorem rmwValue_elsewhen (o : RmwOperand) : rmwValue o (elsewhen w s) = rmwValue o s := by
  cases o with
  | acc => rfl
  | mem m => simp [rmwValue, memValue]

@[simp] theorem rmwStore_elsewhen (o : RmwOperand) (r : Byte) : rmwStore o r (elsewhen w s) = elsewhen w (rmwStore o r s) := by
  cases o with
  | acc => rfl
  | mem m => simp [rmwStore, afterMemRead]

@[simp] theorem takeException_elsewhen (ret : Addr) (brk : Bool) (vector : Addr) :
    takeException ret brk vector (elsewhen w s) = elsewhen w (takeException ret brk vector s) := by
  simp [takeException, pushFrame, readWord, afterReadWord]

@[simp] theorem returnFromException_elsewhen : returnFromException (elsewhen w s) = elsewhen w (returnFromException s) := by
  simp [returnFromException]

theorem Reads.unseen {mn use} (h : Reads mn use) (b : Byte) : use b (elsewhen w s) = elsewhen w (use b s) := by
  cases h <;> rfl

theorem Stores.unseen {mn byte} (h : Stores mn byte) : byte (elsewhen w s) = byte s := by
  cases h <;> rfl

theorem Modifies.unseen {mn change use} (h : Modifies mn change use) (b : Byte) :
    use b (elsewhen w s) = elsewhen w (use b s) := by
  cases h <;> rfl

theorem Shifts.unseen {mn shift use} (h : Shifts mn shift use) (b : Byte) :
    use b (elsewhen w s) = elsewhen w (use b s) := by
  cases h <;> rfl

theorem Sets.unseen {mn use} (h : Sets mn use) : use (elsewhen w s) = elsewhen w (use s) := by
  cases h <;> rfl

theorem Pushes.unseen {mn byte} (h : Pushes mn byte) : byte (elsewhen w s) = byte s := by
  cases h <;> rfl

theorem Pulls.unseen {mn use} (h : Pulls mn use) : use (elsewhen w s) = elsewhen w (use s) := by
  cases h <;> rfl

theorem Branches.unseen {mn taken} (h : Branches mn taken) : taken (elsewhen w s) = taken s := by
  cases h <;> rfl

/-- A rule run from two states that differ only in interrupts and time gives two states that differ only there. -/
theorem Rule.unseen {top mn f} (h : Rule top mn f) : f (elsewhen w s) = elsewhen w (f s) := by
  cases h with
  | reading h | storing h | modifying h | shifting h | registers h | pushing h | pulling h => simp [h.unseen]
  | branching h =>
    simp only [h.unseen]
    split <;> simp [branchTarget, takenCycles]
  | jumping | breaking | restoring => simp
  | indirect => simp [indPointer]
  | calling => simp [pushReturn]
  | returning => simp

end

end Sys2Proof.Proofs
end

section
/-! Decoding an encoding, and fetching an instruction from RAM. -/

namespace Sys2Proof.Proofs

open Sys2Proof.Machine Sys2Proof.Claims Sys2Proof.Safety

/-- An optional instruction is in the table only under `common` (46_undocumented.md R240). -/
theorem undoc_of_optional {u : UndocSet} {i : Instr} (ho : i.optional = true) (h : i.wellFormed u = true) : u = .common := by
  simpa [Instr.wellFormed, ho] using h

theorem decode_bytesF1 {u : UndocSet} {op : Byte} {i : Instr} (h : lookupOpcode u op = .ok (.f1 i)) (rest : List Byte) :
    decode u (bytesF1 op ++ rest) = .ok (i, rest) := by
  simp [bytesF1, decode, h]

theorem decode_bytesF2 {u : UndocSet} {op d8 : Byte} {make : Byte → Instr} (h : lookupOpcode u op = .ok (.f2 make)) (rest : List Byte) :
    decode u (bytesF2 op d8 ++ rest) = .ok (make d8, rest) := by
  simp [bytesF2, decode, h]

theorem decode_bytesF3 {u : UndocSet} {op : Byte} {a16 : Addr} {make : Addr → Instr} (h : lookupOpcode u op = .ok (.f3 make))
    (rest : List Byte) : decode u (bytesF3 op a16 ++ rest) = .ok (make a16, rest) := by
  simp [bytesF3, decode, h]

/-- Decoding the encoding of an instruction that is in the table gives it back, whatever follows (30_encoding.md R91, R112). -/
theorem decode_encode {u : UndocSet} {i : Instr} (h : i.wellFormed u = true) (rest : List Byte) :
    decode u (encode i ++ rest) = .ok (i, rest) := by
  match i with
  | .tax | .tay | .txa | .tya | .tsx | .txs | .pha | .php | .pla | .plp | .inx | .iny | .dex | .dey | .aslAcc | .lsrAcc
  | .rolAcc | .rorAcc | .rts | .clc | .sec | .cli | .sei | .cld | .sed | .clv | .nop | .brk | .rti =>
    exact decode_bytesF1 rfl rest
  | .ldaIzx _ | .ldaZp _ | .ldaImm _ | .ldaIzy _ | .ldaZpx _ | .ldxImm _ | .ldxZp _ | .ldxZpy _ | .ldyImm _ | .ldyZp _
  | .ldyZpx _ | .staIzx _ | .staZp _ | .staIzy _ | .staZpx _ | .stxZp _ | .stxZpy _ | .styZp _ | .styZpx _ | .andIzx _
  | .andZp _ | .andImm _ | .andIzy _ | .andZpx _ | .oraIzx _ | .oraZp _ | .oraImm _ | .oraIzy _ | .oraZpx _ | .eorIzx _
  | .eorZp _ | .eorImm _ | .eorIzy _ | .eorZpx _ | .bitZp _ | .adcIzx _ | .adcZp _ | .adcImm _ | .adcIzy _ | .adcZpx _
  | .sbcIzx _ | .sbcZp _ | .sbcImm _ | .sbcIzy _ | .sbcZpx _ | .cmpIzx _ | .cmpZp _ | .cmpImm _ | .cmpIzy _ | .cmpZpx _
  | .cpxImm _ | .cpxZp _ | .cpyImm _ | .cpyZp _ | .incZp _ | .incZpx _ | .decZp _ | .decZpx _ | .aslZp _ | .aslZpx _
  | .lsrZp _ | .lsrZpx _ | .rolZp _ | .rolZpx _ | .rorZp _ | .rorZpx _ | .bcc _ | .bcs _ | .beq _ | .bne _ | .bmi _ | .bpl _
  | .bvc _ | .bvs _ =>
    exact decode_bytesF2 rfl rest
  | .ldaAbs _ | .ldaAby _ | .ldaAbx _ | .ldxAbs _ | .ldxAby _ | .ldyAbs _ | .ldyAbx _ | .staAbs _ | .staAby _ | .staAbx _
  | .stxAbs _ | .styAbs _ | .andAbs _ | .andAby _ | .andAbx _ | .oraAbs _ | .oraAby _ | .oraAbx _ | .eorAbs _ | .eorAby _
  | .eorAbx _ | .bitAbs _ | .adcAbs _ | .adcAby _ | .adcAbx _ | .sbcAbs _ | .sbcAby _ | .sbcAbx _ | .cmpAbs _ | .cmpAby _
  | .cmpAbx _ | .cpxAbs _ | .cpyAbs _ | .incAbs _ | .incAbx _ | .decAbs _ | .decAbx _ | .aslAbs _ | .aslAbx _ | .lsrAbs _
  | .lsrAbx _ | .rolAbs _ | .rolAbx _ | .rorAbs _ | .rorAbx _ | .jmpAbs _ | .jmpInd _ | .jsr _ =>
    exact decode_bytesF3 rfl rest
  | .laxZp _ | .laxZpy _ | .laxIzx _ | .laxIzy _ | .saxZp _ | .saxZpy _ | .saxIzx _ | .dcpZp _ | .dcpZpx _ | .dcpIzx _
  | .dcpIzy _ | .iscZp _ | .iscZpx _ | .iscIzx _ | .iscIzy _ | .sloZp _ | .sloZpx _ | .sloIzx _ | .sloIzy _ | .rlaZp _
  | .rlaZpx _ | .rlaIzx _ | .rlaIzy _ | .sreZp _ | .sreZpx _ | .sreIzx _ | .sreIzy _ | .rraZp _ | .rraZpx _ | .rraIzx _
  | .rraIzy _ =>
    obtain rfl := undoc_of_optional rfl h
    exact decode_bytesF2 rfl rest
  | .laxAbs _ | .laxAby _ | .saxAbs _ | .dcpAbs _ | .dcpAbx _ | .dcpAby _ | .iscAbs _ | .iscAbx _ | .iscAby _ | .sloAbs _
  | .sloAbx _ | .sloAby _ | .rlaAbs _ | .rlaAbx _ | .rlaAby _ | .sreAbs _ | .sreAbx _ | .sreAby _ | .rraAbs _ | .rraAbx _
  | .rraAby _ =>
    obtain rfl := undoc_of_optional rfl h
    exact decode_bytesF3 rfl rest

/-- Bytes that decode to an instruction with none left over are an opcode and as many operand bytes as its format has. -/
theorem operandCount_of_decode {u : UndocSet} {op : Byte} {operands : List Byte} {i : Instr}
    (h : decode u (op :: operands) = .ok (i, [])) : operandCount u op = operands.length := by
  unfold operandCount
  cases hl : lookupOpcode u op with
  | error e => simp [decode, hl] at h
  | ok shape =>
    cases shape with
    | f1 instr => simp_all [decode]
    | f2 make =>
      match operands, h with
      | [], h => simp [decode, hl] at h
      | d8 :: rest, h => simp_all [decode]
    | f3 make =>
      match operands, h with
      | [], h | [_], h => simp [decode, hl] at h
      | low :: high :: rest, h => simp_all [decode]

/-- The first byte of an encoding says how many operand bytes follow (30_encoding.md R91). -/
theorem encode_eq_cons {u : UndocSet} {i : Instr} (h : i.wellFormed u = true) :
    ∃ op operands, encode i = op :: operands ∧ operandCount u op = operands.length := by
  have hd : decode u (encode i) = .ok (i, []) := by simpa using decode_encode h []
  cases hb : encode i with
  | nil => simp [hb, decode] at hd
  | cons op operands => exact ⟨op, operands, rfl, operandCount_of_decode (hb ▸ hd)⟩

/-- A fetch that finds no instruction read an opcode that is in no table (30_encoding.md R112). -/
theorem inTable_of_fetchInstr_none {s : State} (h : fetchInstr s = none) : inTable s.cfg (busRead s.pc s) = false := by
  unfold inTable
  cases hl : lookupOpcode s.cfg.undoc (busRead s.pc s) with
  | error e => rfl
  | ok shape => cases shape <;> simp [fetchInstr, fetchBytes, operandCount, hl, busReads, decode] at h

/-- RAM answers reads from `a` on with these bytes, at addresses modulo 65536 (20_memory.md R72). -/
def BytesInRam (s : State) (a : Addr) (bytes : List Byte) : Prop :=
  ∀ k, k < bytes.length →
    owner s.cfg s.latch .read (a + BitVec.ofNat 16 k) = .ram ∧ ramRead s.ram (a + BitVec.ofNat 16 k).toNat = bytes.getD k 0

theorem BytesInRam.head {s : State} {a : Addr} {b : Byte} {bytes : List Byte} (h : BytesInRam s a (b :: bytes)) :
    busRead a s = b ∧ afterRead a s = s := by
  obtain ⟨ho, hb⟩ := h 0 (by simp)
  simp only [BitVec.ofNat_eq_ofNat, BitVec.add_zero] at ho hb
  exact ⟨(busRead_of_ram ho).trans hb, afterRead_of_ram ho⟩

theorem BytesInRam.tail {s : State} {a : Addr} {b : Byte} {bytes : List Byte} (h : BytesInRam s a (b :: bytes)) :
    BytesInRam s (a + 1) bytes := by
  intro k hk
  have ha : a + 1 + BitVec.ofNat 16 k = a + BitVec.ofNat 16 (k + 1) := by
    rw [BitVec.add_assoc, BitVec.ofNat_add, BitVec.add_comm 1]
    rfl
  rw [ha]
  exact h (k + 1) (Nat.succ_lt_succ hk)

/-- Reading bytes that lie in RAM gives them and changes nothing. -/
theorem BytesInRam.reads {s : State} {a : Addr} {bytes : List Byte} (h : BytesInRam s a bytes) :
    busReads bytes.length a s = bytes ∧ afterReads bytes.length a s = s := by
  induction bytes generalizing a with
  | nil => exact ⟨rfl, rfl⟩
  | cons b bytes ih =>
    obtain ⟨hread, hafter⟩ := h.head
    obtain ⟨hreads, hafters⟩ := ih h.tail
    simp only [List.length_cons, busReads, afterReads, hread, hafter, hreads, hafters, and_self]

/-- An instruction of the table whose bytes lie in RAM at `PC` is fetched, and the fetch changes nothing. -/
theorem fetch_of_bytesInRam {s : State} {i : Instr} (hwf : i.wellFormed s.cfg.undoc = true) (h : BytesInRam s s.pc (encode i)) :
    fetchInstr s = some i ∧ afterFetch s = s := by
  obtain ⟨op, operands, hbytes, hcount⟩ := encode_eq_cons hwf
  have hdecode : decode s.cfg.undoc (op :: operands) = .ok (i, []) := by simpa [hbytes] using decode_encode hwf []
  rw [hbytes] at h
  obtain ⟨hread, hafter⟩ := h.head
  obtain ⟨hreads, hafters⟩ := h.tail.reads
  simp only [fetchInstr, fetchBytes, afterFetch, hread, hafter, hcount, hreads, hafters, hdecode, and_self]

/-- The poll takes no interrupt where NMI is not pending and the IRQ level is low or masked (60_exceptions.md R266, R267). -/
theorem pendingInterrupt_eq_none {s : State} (hnmi : s.nmiPending = false) (hirq : s.i = true ∨ s.irqSignals.any id = false) :
    pendingInterrupt (sampleIrq s) = none := by
  rcases hirq with hi | hs
  · simp [pendingInterrupt, hnmi, hi]
  · simp [pendingInterrupt, hnmi, irqLevel, hs]

/-! ### The fetch leaves everything but the devices -/

@[simp] theorem afterFetch_cycles (s : State) : (afterFetch s).cycles = s.cycles := by rw [afterFetch_eq]
@[simp] theorem afterFetch_ram (s : State) : (afterFetch s).ram = s.ram := by rw [afterFetch_eq]
@[simp] theorem afterFetch_fault (s : State) : (afterFetch s).fault = s.fault := by rw [afterFetch_eq]
@[simp] theorem afterFetch_irqSignals (s : State) : (afterFetch s).irqSignals = s.irqSignals := by rw [afterFetch_eq]
@[simp] theorem afterFetch_cfg (s : State) : (afterFetch s).cfg = s.cfg := by rw [afterFetch_eq]

end Sys2Proof.Proofs
end

section
/-! The obligations on the state: its invariant, what instructions and steps leave alone, the status byte, reset, the host's edits. -/

namespace Sys2Proof.Proofs

open Sys2Proof.Machine Sys2Proof.Claims Sys2Proof.Safety

/-- A flag is bit 0 of its byte. -/
@[simp] theorem getElem_flagBit (f : Bool) (k : Nat) (hk : k < 8) : (flagBit f)[k] = (f && decide (k = 0)) := by
  cases f <;> simp [flagBit, BitVec.getElem_one]

/-- The place of each flag in the status byte (10_state.md R27). -/
theorem getLsbD_pByte (b : Bool) (s : State) :
    (pByte b s).getLsbD 7 = s.n ∧ (pByte b s).getLsbD 6 = s.v ∧ (pByte b s).getLsbD 5 = true ∧ (pByte b s).getLsbD 4 = b ∧
    (pByte b s).getLsbD 3 = s.d ∧ (pByte b s).getLsbD 2 = s.i ∧ (pByte b s).getLsbD 1 = s.z ∧ (pByte b s).getLsbD 0 = s.c := by
  simp [pByte]

/-- Loading a status byte gives the six flags back (10_state.md R28). -/
theorem setP_pByte (b : Bool) (s t : State) :
    setP (pByte b s) t = { t with n := s.n, v := s.v, d := s.d, i := s.i, z := s.z, c := s.c } := by
  obtain ⟨h7, h6, _, _, h3, h2, h1, h0⟩ := getLsbD_pByte b s
  rw [setP, h7, h6, h3, h2, h1, h0]

/-- Settles O12: an entry keeps RAM's form by its three pushes, an instruction by its rule, and the fault's opcode is one that
`fetchInstr` did not find. -/
theorem stepKeepsTheInvariant : Obligations.StepKeepsTheInvariant := by
  intro s t ⟨hram, _⟩ hstep
  obtain ⟨_, hfault, ⟨kind, _, rfl⟩ | ⟨_, ⟨i, _, hexec⟩ | ⟨hnone, rfl⟩⟩⟩ := step_cases hstep
  · exact ⟨enter_wf kind _ hram, by simp [hfault]⟩
  · obtain ⟨_, _, hsame, _⟩ := exec_outside hexec
    exact ⟨exec_ram_wf hexec (by simpa using hram), by simp [hsame, hfault]⟩
  · refine ⟨by simpa using hram, fun record hrecord => ?_⟩
    obtain rfl : (busRead s.pc (sampleIrq s), s.pc) = record := by simpa using hrecord
    simpa using inTable_of_fetchInstr_none hnone

/-- Settles O6: the bytes are fetched, they decode to the instruction, and RAM is not changed by being read. -/
theorem stepRunsTheBytesInRam : Obligations.StepRunsTheBytesInRam := by
  intro s i hcfg hfault hnmi hirq hwf hbytes
  have hnone := pendingInterrupt_eq_none hnmi hirq
  obtain ⟨hfetch, hafter⟩ := fetch_of_bytesInRam (s := sampleIrq s) hwf hbytes
  rw [step_eq_boundary s hcfg hfault, boundary_eq_run s hnone, runInstruction, hfetch, hafter]
  rfl

/-- Settles O14, by the bounds on each rule's cycles; an entry adds 7, a fault a free number. -/
theorem cyclesGrow : Obligations.CyclesGrow := by
  refine ⟨fun i s t h => ?_, fun s t h => ?_⟩
  · obtain ⟨hlo, hhi⟩ := exec_cycles h
    refine ⟨hlo, hhi.trans (Nat.add_le_add_left (maxCycles_le i) _), fun hdoc => ?_⟩
    rwa [maxCycles_of_documented hdoc] at hhi
  · obtain ⟨_, _, ⟨kind, _, rfl⟩ | ⟨_, ⟨i, _, hexec⟩ | ⟨_, rfl⟩⟩⟩ := step_cases h
    · simp
    · obtain ⟨hlo, _⟩ := exec_cycles hexec
      simp only [afterFetch_cycles, sampleIrq_cycles] at hlo
      omega
    · simp

/-- Settles O15: no rule touches them. -/
theorem instructionsLeaveTheInterruptLatches : Obligations.InstructionsLeaveTheInterruptLatches := fun _ _ _ h => exec_outside h

/-- Settles O16, by the rules of each mnemonic. -/
theorem flagsChangeOnlyWhereListed : Obligations.FlagsChangeOnlyWhereListed := by
  intro i s t h
  obtain ⟨f, _, hrule, rfl⟩ := rule_of_exec h
  exact hrule.flags s

/-- Settles O17, by the rules of each mnemonic. -/
theorem registersAndMemoryChangeOnlyWhereListed : Obligations.RegistersAndMemoryChangeOnlyWhereListed := by
  intro i s t h
  obtain ⟨f, _, hrule, rfl⟩ := rule_of_exec h
  exact hrule.registersAndMemory s

/-- Settles O19: an entry, an instruction and the fault each leave them. -/
theorem stepKeepsConfigurationAndSignals : Obligations.StepKeepsConfigurationAndSignals := by
  intro s t h
  obtain ⟨_, _, ⟨kind, _, rfl⟩ | ⟨_, ⟨i, _, hexec⟩ | ⟨_, rfl⟩⟩⟩ := step_cases h
  · simp
  · obtain ⟨_, _, _, hsignals, hcfg, _⟩ := exec_outside hexec
    simp [hsignals, hcfg]
  · simp

/-- Settles O21: each rule commutes with a change of latches, signals and time. -/
theorem instructionsDoNotSeeInterruptsOrTime : Obligations.InstructionsDoNotSeeInterruptsOrTime := by
  intro i s t nmi irq signals more h
  obtain ⟨f, hf, hrule, rfl⟩ := rule_of_exec h
  exact (hf _).trans (congrArg _ (hrule.unseen ⟨nmi, irq, signals, more⟩ s))

/-- Settles O36, from the place of each flag in the byte. -/
theorem statusByte : Obligations.StatusByte := by
  intro s t b
  obtain ⟨h7, h6, h5, h4, h3, h2, h1, h0⟩ := getLsbD_pByte b s
  exact ⟨h7, h6, h5, h4, h3, h2, h1, h0, setP_pByte b s t, fun _ => rfl⟩

/-- Settles O7: `step` looks at the configuration first and at the fault record second. -/
theorem faultedStateStandsStill : Obligations.FaultedStateStandsStill := by
  refine ⟨fun s op pc hcfg hfault => ?_, fun s hcfg => ?_⟩
  · simp [step, hcfg, hfault]
  · simp [step, hcfg]

/-- Settles O13: RAM is the empty list and there is no fault record. -/
theorem resetMeetsTheInvariant : Obligations.ResetMeetsTheInvariant := ⟨reset_ram_wf, nofun⟩

/-- Settles O55: one fixed state, whose vector reads RAM's fill. -/
theorem resetStateValues : Obligations.ResetStateValues := by
  unfold Obligations.ResetStateValues
  decide

/-- Settles O59: each edit is one field of the state; a byte of RAM reads back and every other one stays. -/
theorem editsBetweenTransitions : Obligations.EditsBetweenTransitions := by
  intro s b a
  have hframe : ramFrame [a] s (editState (.ram a b) s) := fun k hk => ramRead_ramWrite_other _ _ _ _ (hk a (by simp))
  exact ⟨rfl, rfl, rfl, rfl, rfl, rfl, rfl, rfl, fun _ => rfl, fun _ => rfl, fun _ => rfl, fun _ => rfl, fun _ => rfl, fun _ => rfl,
    rfl, rfl, fun _ => rfl, fun _ => rfl, fun _ => rfl, fun _ => rfl, rfl, fun _ => rfl, rfl, ramRead_ramWrite_same _ _ _, hframe⟩

end Sys2Proof.Proofs
end

section
/-! Chains of bus accesses: what every step does to memory and to the devices (20_memory.md R51, R55, R67). -/

namespace Sys2Proof.Proofs

open Sys2Proof.Machine Sys2Proof.Claims Sys2Proof.Safety

/-- `t` holds the RAM, the latch and the device history of `s`. -/
def SameBus (s t : State) : Prop := t.ram = s.ram ∧ t.latch = s.latch ∧ t.devices = s.devices

/-- `t` is reached from `s` by bus reads, bus writes and changes inside the core. -/
inductive BusChain (s : State) : State → Prop where
  | refl : BusChain s s
  | read {t : State} (a : Addr) (h : BusChain s t) : BusChain s (afterRead a t)
  | write {t : State} (a : Addr) (b : Byte) (h : BusChain s t) : BusChain s (busWrite a b t)
  | inside {t u : State} (h : BusChain s t) (hsame : SameBus t u) : BusChain s u

theorem BusChain.trans {s t u : State} (h : BusChain s t) (htu : BusChain t u) : BusChain s u := by
  induction htu with
  | refl => exact h
  | read a _ ih => exact .read a ih
  | write a b _ ih => exact .write a b ih
  | inside _ hsame ih => exact .inside ih hsame

/-- No bus access changes the byte of RAM under the latch (20_memory.md R55). -/
theorem BusChain.ramRead_latchAddr {s t : State} (h : BusChain s t) :
    ramRead t.ram latchAddr.toNat = ramRead s.ram latchAddr.toNat := by
  induction h with
  | refl => rfl
  | read a _ ih => exact ih
  | write a b _ ih => exact (ramRead_ramAfterWrite_latchAddr a b _).trans ih
  | inside _ hsame ih =>
    obtain ⟨hram, _, _⟩ := hsame
    rw [hram, ih]

theorem devicesAfterRead_suffix (a : Addr) (s : State) : s.devices <:+ devicesAfterRead a s := by
  unfold devicesAfterRead
  split
  · exact List.suffix_cons _ _
  all_goals exact List.suffix_refl _

theorem devicesAfterWrite_suffix (a : Addr) (b : Byte) (s : State) : s.devices <:+ devicesAfterWrite a b s := by
  unfold devicesAfterWrite
  split
  · exact List.suffix_cons _ _
  all_goals exact List.suffix_refl _

/-- Bus accesses only add to what the devices have seen (20_memory.md R67). -/
theorem BusChain.devices_suffix {s t : State} (h : BusChain s t) : s.devices <:+ t.devices := by
  induction h with
  | refl => exact List.suffix_refl _
  | read a _ ih => exact ih.trans (devicesAfterRead_suffix a _)
  | write a b _ ih => exact ih.trans (devicesAfterWrite_suffix a b _)
  | inside _ hsame ih =>
    obtain ⟨_, _, hdevices⟩ := hsame
    rwa [hdevices]

/-! ### What the shared operations do is a chain -/

section
variable {s t : State}

theorem BusChain.push (b : Byte) (h : BusChain s t) : BusChain s (push b t) :=
  .inside (.write _ b h) ⟨rfl, rfl, rfl⟩

theorem BusChain.pull (h : BusChain s t) : BusChain s (afterPull t) := .inside (.read _ h) ⟨rfl, rfl, rfl⟩

theorem BusChain.advance (len k : Nat) (h : BusChain s t) : BusChain s (advance len k t) := .inside h ⟨rfl, rfl, rfl⟩

theorem BusChain.jumpTo (target : Addr) (k : Nat) (h : BusChain s t) : BusChain s (jumpTo target k t) :=
  .inside h ⟨rfl, rfl, rfl⟩

theorem BusChain.setC (b : Bool) (h : BusChain s t) : BusChain s (setC b t) := .inside h ⟨rfl, rfl, rfl⟩

theorem BusChain.pointer (m : MemMode) (h : BusChain s t) : BusChain s (afterPointer m t) := by
  cases m with
  | zp | zpx | zpy | abs | abx | aby => exact h
  | izx | izy => exact .read _ (.read _ h)

theorem BusChain.load (o : ReadOperand) (h : BusChain s t) : BusChain s (afterLoad o t) := by
  cases o with
  | imm => exact h
  | mem m => exact .read _ (.pointer m h)

theorem BusChain.rmwStore (o : RmwOperand) (r : Byte) (h : BusChain s t) : BusChain s (rmwStore o r t) := by
  cases o with
  | acc => exact .inside h ⟨rfl, rfl, rfl⟩
  | mem m => exact .write _ _ (.read _ (.pointer m h))

theorem BusChain.takeException (ret : Addr) (brk : Bool) (vector : Addr) (h : BusChain s t) :
    BusChain s (takeException ret brk vector t) := by
  have hpushed : BusChain s (pushFrame ret brk t) := .push _ (.push _ (.push _ h))
  have hmasked : BusChain s (setI true (pushFrame ret brk t)) := .inside hpushed (by simp [SameBus])
  exact .jumpTo _ _ (.read _ (.read _ hmasked))

theorem BusChain.enter (kind : InterruptKind) (h : BusChain s t) : BusChain s (enter kind t) := by
  cases kind with
  | nmi => exact .inside (.takeException t.pc false vecNmi h) (by simp [SameBus, Machine.enter])
  | irq => exact .inside (.takeException t.pc false vecIrq h) (by simp [SameBus, Machine.enter])

theorem BusChain.returnFromException (h : BusChain s t) : BusChain s (returnFromException t) :=
  have hstatus : BusChain s (setP (pullByte t) (afterPull t)) := .inside (.pull h) ⟨rfl, rfl, rfl⟩
  .jumpTo _ _ (.pull (.pull hstatus))

theorem BusChain.reads (k : Nat) (a : Addr) (h : BusChain s t) : BusChain s (afterReads k a t) := by
  induction k generalizing a t with
  | zero => exact h
  | succ k ih => exact ih (a + 1) (.read a h)

theorem BusChain.fetch (h : BusChain s t) : BusChain s (afterFetch t) := .reads _ _ (.read _ h)

end

/-! ### What an instruction does with its operand stays inside the core -/

theorem Reads.sameBus {mn use} (h : Reads mn use) (b : Byte) (s : State) : SameBus s (use b s) := by
  cases h <;> exact ⟨rfl, rfl, rfl⟩

theorem Modifies.sameBus {mn change use} (h : Modifies mn change use) (b : Byte) (s : State) : SameBus s (use b s) := by
  cases h <;> exact ⟨rfl, rfl, rfl⟩

theorem Shifts.sameBus {mn shift use} (h : Shifts mn shift use) (b : Byte) (s : State) : SameBus s (use b s) := by
  cases h <;> exact ⟨rfl, rfl, rfl⟩

theorem Sets.sameBus {mn use} (h : Sets mn use) (s : State) : SameBus s (use s) := by
  cases h <;> exact ⟨rfl, rfl, rfl⟩

theorem Pulls.busChain {mn use} (h : Pulls mn use) (s : State) : BusChain s (use s) := by
  cases h <;> exact .inside (.pull .refl) ⟨rfl, rfl, rfl⟩

/-- Every rule's accesses are a chain. -/
theorem Rule.busChain {top mn f} (h : Rule top mn f) (s : State) : BusChain s (f s) := by
  cases h with
  | reading h o => exact .advance _ _ (.inside (.load o .refl) (h.sameBus _ _))
  | storing h m => exact .advance _ _ (.write _ _ (.pointer m .refl))
  | modifying h m => exact .advance _ _ (.inside (.rmwStore _ _ .refl) (h.sameBus _ _))
  | shifting h o => exact .advance _ _ (.inside (.setC _ (.rmwStore o _ .refl)) (h.sameBus _ _))
  | registers h => exact .advance _ _ (.inside .refl (h.sameBus s))
  | pushing => exact .advance _ _ (.push _ .refl)
  | pulling h => exact .advance _ _ (h.busChain s)
  | branching =>
    dsimp only
    split <;> exact .jumpTo _ _ .refl
  | jumping => exact .jumpTo _ _ .refl
  | indirect => exact .jumpTo _ _ (.read _ (.read _ .refl))
  | calling => exact .jumpTo _ _ (.push _ (.push _ .refl))
  | returning => exact .jumpTo _ _ (.pull (.pull .refl))
  | breaking => exact .takeException _ _ _ .refl
  | restoring => exact .returnFromException .refl

/-- All that a step does to memory and to the devices it does by bus accesses. -/
theorem step_busChain {s t : State} (h : step s = .next t) : BusChain s t := by
  have hsample : BusChain s (sampleIrq s) := .inside .refl ⟨rfl, rfl, rfl⟩
  have hfetch := hsample.fetch
  obtain ⟨_, _, ⟨kind, _, rfl⟩ | ⟨_, ⟨i, _, hexec⟩ | ⟨_, rfl⟩⟩⟩ := step_cases h
  · exact hsample.enter kind
  · obtain ⟨f, _, hrule, rfl⟩ := rule_of_exec hexec
    exact hfetch.trans (hrule.busChain _)
  · exact .inside hfetch ⟨rfl, rfl, rfl⟩

/-- Settles O18: a step is a chain of bus accesses, and none of them writes there. -/
theorem ramUnderTheLatchIsNeverWritten : Obligations.RamUnderTheLatchIsNeverWritten :=
  fun _ _ h => (step_busChain h).ramRead_latchAddr

/-- Settles O20: a step is a chain of bus accesses, and each of them adds at most one event. -/
theorem deviceHistoryOnlyGrows : Obligations.DeviceHistoryOnlyGrows := by
  intro s t h
  obtain ⟨events, hevents⟩ := (step_busChain h).devices_suffix
  exact ⟨events, hevents.symm⟩

end Sys2Proof.Proofs
end

section
/-! The bus router: who owns an address, and what a read and a write of it do (20_memory.md R50–R62). -/

namespace Sys2Proof.Proofs

open Sys2Proof.Machine Sys2Proof.Claims Sys2Proof.Safety

/-! ### The bank map -/

/-- The window at `$A000–$BFFF` (20_memory.md R56). -/
theorem windowMap_basic (latch : Byte) {a : Addr} (hlo : 0xA000 ≤ a.toNat) (hhi : a.toNat ≤ 0xBFFF) :
    windowMap latch a = some (if latch.getLsbD 0 && latch.getLsbD 1 then .rom .basic else .ram) := by
  simp [windowMap, hlo, hhi]

/-- The window at `$E000–$FFFF` (20_memory.md R56). -/
theorem windowMap_kernal (latch : Byte) {a : Addr} (hlo : 0xE000 ≤ a.toNat) :
    windowMap latch a = some (if latch.getLsbD 1 then .rom .kernal else .ram) := by
  have hbasic : ¬ (0xA000 ≤ a.toNat ∧ a.toNat ≤ 0xBFFF) := by omega
  simp [windowMap, hbasic, hlo]

/-- The window at `$D000–$DFFF` (20_memory.md R56). -/
theorem windowMap_io (latch : Byte) {a : Addr} (hlo : 0xD000 ≤ a.toNat) (hhi : a.toNat ≤ 0xDFFF) :
    windowMap latch a =
      some (if !latch.getLsbD 0 && !latch.getLsbD 1 then .ram else if latch.getLsbD 2 then .io else .rom .char) := by
  have hbasic : ¬ (0xA000 ≤ a.toNat ∧ a.toNat ≤ 0xBFFF) := by omega
  have hkernal : ¬ 0xE000 ≤ a.toNat := by omega
  simp only [windowMap, hbasic, hkernal, hlo, hhi, and_self, if_true, if_false]

/-- Outside the windows nothing is mapped (20_memory.md R53). -/
theorem windowMap_outside (latch : Byte) {a : Addr} (h : a.toNat < 0xA000 ∨ (0xC000 ≤ a.toNat ∧ a.toNat ≤ 0xCFFF)) :
    windowMap latch a = none := by
  have hbasic : ¬ (0xA000 ≤ a.toNat ∧ a.toNat ≤ 0xBFFF) := by omega
  have hkernal : ¬ 0xE000 ≤ a.toNat := by omega
  have hio : ¬ (0xD000 ≤ a.toNat ∧ a.toNat ≤ 0xDFFF) := by omega
  simp [windowMap, hbasic, hkernal, hio]

/-- `LORAM`, `HIRAM` and `CHAREN` are the bits of `latch[2:0]`. -/
theorem testBit_mod_eight (latch : Byte) {k : Nat} (hk : k < 3) : (latch.toNat % 8).testBit k = latch.getLsbD k := by
  have h : (latch.toNat % 2 ^ 3).testBit k = (decide (k < 3) && latch.toNat.testBit k) := Nat.testBit_mod_two_pow ..
  simpa [hk, BitVec.testBit_toNat] using h

/-- The rows of the table follow the three bits (20_memory.md R56). -/
theorem bankTable_bits : ∀ row ∈ bankTable,
    (if row.1.testBit 0 && row.1.testBit 1 then .rom .basic else .ram) = row.2.1 ∧
    (if !row.1.testBit 0 && !row.1.testBit 1 then .ram else if row.1.testBit 2 then .io else .rom .char) = row.2.2.1 ∧
    (if row.1.testBit 1 then .rom .kernal else .ram) = row.2.2.2 := by
  decide

/-- Settles O23: each window looks at the bits of `latch[2:0]`, and the row has what they choose. -/
theorem bankMapTable : Obligations.BankMapTable := by
  refine fun latch a => ⟨fun row hrow hlatch => ?_, windowMap_outside latch⟩
  obtain ⟨hbasic, hio, hkernal⟩ := bankTable_bits row hrow
  simp only [← hlatch, testBit_mod_eight latch, Nat.reduceLT] at hbasic hio hkernal
  exact ⟨fun hlo hhi => hbasic ▸ windowMap_basic latch hlo hhi, fun hlo hhi => hio ▸ windowMap_io latch hlo hhi,
    fun hlo => hkernal ▸ windowMap_kernal latch hlo⟩

/-! ### The owner of an address -/

/-- `owner` with the map of the windows written out (20_memory.md R50, R51, R56). -/
theorem owner_eq (cfg : Config) (latch : Byte) (kind : Access) (a : Addr) :
    owner cfg latch kind a =
      if cartClaims cfg latch kind a then .device .cart
      else if a = latchAddr then .latch
      else if 0xA000 ≤ a.toNat ∧ a.toNat ≤ 0xBFFF then
        if latch.getLsbD 0 && latch.getLsbD 1 then romOwner cfg kind .basic else .ram
      else if 0xE000 ≤ a.toNat then if latch.getLsbD 1 then romOwner cfg kind .kernal else .ram
      else if 0xD000 ≤ a.toNat ∧ a.toNat ≤ 0xDFFF then
        if !latch.getLsbD 0 && !latch.getLsbD 1 then .ram
        else if latch.getLsbD 2 then peripheralOrRam cfg a else romOwner cfg kind .char
      else peripheralOrRam cfg a := by
  unfold owner windowMap
  dsimp only
  split_ifs <;> rfl

/-- A window, a peripheral and RAM are not the latch: only `LATCH_ADDR` is (20_memory.md R55). -/
theorem owner_ne_latch (cfg : Config) (latch : Byte) (kind : Access) {a : Addr} (h : a ≠ latchAddr) :
    owner cfg latch kind a ≠ .latch := by
  unfold owner peripheralOrRam romOwner
  repeat' split
  all_goals simp_all

/-! ### A read and a write, by the owner -/

/-- The byte and the next state of a read that this owner answers (20_memory.md R50, R55, R57, R67). -/
def readBy (o : Owner) (a : Addr) (s : State) : Byte × State :=
  match o with
  | .device dev => (Config.deviceByte s.devices dev a, { s with devices := .read dev a :: s.devices })
  | .latch => (s.latch &&& s.cfg.latchRMask, s)
  | .rom r => (romByte s.cfg r a, s)
  | .ram => (ramRead s.ram a.toNat, s)

/-- The next state of a write that this owner receives; ROM receives none (20_memory.md R51, R61). -/
def writeBy (o : Owner) (a : Addr) (b : Byte) (s : State) : State :=
  match o with
  | .device dev => { s with devices := .write dev a b :: s.devices }
  | .latch => { s with latch := b }
  | .rom _ => s
  | .ram => { s with ram := ramWrite s.ram a.toNat b }

theorem read_eq_readBy (a : Addr) (s : State) :
    (busRead a s, afterRead a s) = readBy (owner s.cfg s.latch .read a) a s := by
  unfold busRead afterRead devicesAfterRead
  cases owner s.cfg s.latch .read a <;> rfl

theorem busWrite_eq_writeBy (a : Addr) (b : Byte) (s : State) :
    busWrite a b s = writeBy (owner s.cfg s.latch .write a) a b s := by
  unfold busWrite latchAfterWrite ramAfterWrite devicesAfterWrite
  cases owner s.cfg s.latch .write a <;> rfl

theorem busWrite_of_latch {a : Addr} (b : Byte) {s : State} (h : owner s.cfg s.latch .write a = .latch) :
    busWrite a b s = { s with latch := b } := by
  rw [busWrite_eq_writeBy, h, writeBy]

theorem busWrite_of_device {a : Addr} {dev : Device} (b : Byte) {s : State}
    (h : owner s.cfg s.latch .write a = .device dev) :
    busWrite a b s = { s with devices := .write dev a b :: s.devices } := by
  rw [busWrite_eq_writeBy, h, writeBy]

theorem afterRead_of_device {a : Addr} {dev : Device} {s : State} (h : owner s.cfg s.latch .read a = .device dev) :
    afterRead a s = { s with devices := .read dev a :: s.devices } := by
  simpa [h, readBy] using congrArg Prod.snd (read_eq_readBy a s)

/-- A write anywhere else leaves the latch (20_memory.md R55). -/
theorem busWrite_latch_of_ne {a : Addr} (b : Byte) (s : State) (h : a ≠ latchAddr) : (busWrite a b s).latch = s.latch := by
  rcases busWrite_cases a b s with ⟨_, hw⟩ | ⟨ho, _⟩ | ⟨_, _, hw⟩
  · rw [hw]
  · exact absurd ho (owner_ne_latch _ _ _ h)
  · rw [hw]

/-- Settles O22: at its address the latch owns every access that the cartridge does not claim, and no other address. -/
theorem latchAtItsAddress : Obligations.LatchAtItsAddress := by
  refine fun s b => ⟨fun hcart => ?_, fun hcart => ?_, fun a ha => ⟨?_, ?_⟩⟩
  · exact busWrite_of_latch b (owner_latchAddr _ _ _ hcart)
  · have hread := read_eq_readBy latchAddr s
    rw [owner_latchAddr _ _ _ hcart] at hread
    exact Prod.mk.inj hread
  · exact busWrite_latch_of_ne b s ha
  · exact owner_ne_latch _ _ _ ha

/-- Settles O27: a write of the latch changes the latch alone, so a second one puts the state back. -/
theorem bankSwitchRoundTrip : Obligations.BankSwitchRoundTrip := by
  intro s b hcart
  have hwrite : busWrite 0x0001 b s = { s with latch := b } := busWrite_of_latch b (owner_latchAddr _ _ _ (hcart s.latch))
  rw [hwrite]
  exact ⟨rfl, busWrite_of_latch s.latch (owner_latchAddr _ _ _ (hcart b))⟩

/-- Settles O26: the write changes one byte of RAM, which is all that any read can see of it. -/
theorem writeThenRead : Obligations.WriteThenRead := by
  intro s a b ⟨hread, hwrite⟩
  rw [busWrite_of_ram hwrite]
  refine ⟨?_, fun k hk => ?_⟩
  · exact (busRead_of_ram (s := { s with ram := ramWrite s.ram a.toNat b }) hread).trans (ramRead_ramWrite_same ..)
  · have hnat : k.toNat ≠ a.toNat := fun h => hk (BitVec.eq_of_toNat_eq h)
    simp only [busRead, ramRead_ramWrite_other _ _ _ _ hnat]

/-! ### First match wins -/

theorem readBy_peripheralOrRam (a : Addr) (s : State) : readBy (peripheralOrRam s.cfg a) a s = peripheralOrRamRead a s := by
  unfold peripheralOrRam peripheralAt peripheralOrRamRead inRange
  cases s.cfg.peripherals.findIdx? _ <;> rfl

theorem readBy_romOwner (r : Rom) (a : Addr) (s : State) :
    readBy (romOwner s.cfg .read r) a s = (imageOr (romImage s.cfg r) (romBase r) a s, s) := by
  unfold romOwner imageOr
  cases h : romImage s.cfg r <;> simp [readBy, romByte, h]

theorem writeBy_peripheralOrRam (a : Addr) (b : Byte) (s : State) :
    writeBy (peripheralOrRam s.cfg a) a b s = peripheralOrRamWrite a b s := by
  unfold peripheralOrRam peripheralAt peripheralOrRamWrite inRange
  cases s.cfg.peripherals.findIdx? _ <;> rfl

/-- Settles O24: the owner is the first match, and its answer is the byte and the state that the statement gives. -/
theorem readResolution : Obligations.ReadResolution := by
  intro s a
  rw [read_eq_readBy, owner_eq]
  have htop : a.toNat ≤ 0xFFFF := Nat.le_of_lt_succ a.isLt
  simp only [apply_ite (readBy · a s), readBy_peripheralOrRam, readBy_romOwner, apply_ite (Prod.mk · s), htop, and_true,
    Bool.and_eq_true, Bool.not_eq_true, Bool.not_eq_true']
  rfl

/-- The window at `$D000` shows a device only with `CHAREN` and one of `LORAM` and `HIRAM` set (20_memory.md R56). -/
theorem ite_io_window {α : Type} (loram hiram charen : Bool) (io ram : α) :
    (if !loram && !hiram then ram else if charen then io else ram) = if (loram ∨ hiram) ∧ charen then io else ram := by
  cases loram <;> cases hiram <;> cases charen <;> rfl

/-- Settles O25: the owner is the first match, and under ROM it is RAM. -/
theorem writeResolution : Obligations.WriteResolution := by
  intro s a b
  rw [busWrite_eq_writeBy, owner_eq]
  simp only [apply_ite (writeBy · a b s), writeBy_peripheralOrRam, romOwner, ite_self, ite_or, ite_io_window]
  rfl

end Sys2Proof.Proofs
end

section
/-! The forms that read, store or modify memory, and the accesses each makes to a device (20_memory.md R66, R67). -/

namespace Sys2Proof.Proofs

open Sys2Proof.Machine Sys2Proof.Claims Sys2Proof.Safety

/-! ### The operation behind each form -/

/-- A reading form loads its operand and uses it as its mnemonic does. -/
theorem exec_readingForms (d8 : Byte) (a16 : Addr) : ∀ f ∈ readingForms d8 a16,
    ∃ use, Reads (mnemonic f.instr) use ∧ ∀ s, exec f.instr s = readOp f.operand f.base use s := by
  simp only [readingForms, ldaForms, ldxForms, ldyForms, laxForms, andForms, oraForms, eorForms, bitForms, adcForms, sbcForms,
    cmpForms, cpxForms, cpyForms, List.forall_mem_append, List.forall_mem_cons, List.not_mem_nil,
    false_imp_iff, implies_true, and_true]
  and_intros <;> exact ⟨_, by constructor, fun _ => rfl⟩

/-- A storing form stores the byte it is listed with. -/
theorem exec_storingForms (d8 : Byte) (a16 : Addr) (s : State) : ∀ f ∈ storingForms d8 a16 s,
    exec f.1.instr s = storeOp f.1.operand f.1.base f.2 s := by
  simp only [storingForms, staForms, stxForms, styForms, saxForms, List.map_cons, List.map_nil, List.forall_mem_append,
    List.forall_mem_cons, List.not_mem_nil, false_imp_iff, implies_true, and_true]
  and_intros <;> rfl

/-- The memory forms that increment or decrement, composites among them (R180, R183, R243, R244). -/
def incDecForms (d8 : Byte) (a16 : Addr) : List (Form MemMode) :=
  incForms d8 a16 ++ decForms d8 a16 ++ dcpForms d8 a16 ++ iscForms d8 a16

/-- The memory forms that shift or rotate, composites among them (R186–R189, R245–R248). -/
def shiftForms (d8 : Byte) (a16 : Addr) : List (Form MemMode) :=
  aslForms d8 a16 ++ lsrForms d8 a16 ++ rolForms d8 a16 ++ rorForms d8 a16 ++ sloForms d8 a16 ++ rlaForms d8 a16 ++
  sreForms d8 a16 ++ rraForms d8 a16

theorem mem_modifyingForms {d8 : Byte} {a16 : Addr} {f : Form MemMode} :
    f ∈ modifyingForms d8 a16 ↔ f ∈ incDecForms d8 a16 ∨ f ∈ shiftForms d8 a16 := by
  simp only [modifyingForms, incDecForms, shiftForms, List.mem_append]
  tauto

theorem exec_incDecForms (d8 : Byte) (a16 : Addr) : ∀ f ∈ incDecForms d8 a16,
    ∃ change use, Modifies (mnemonic f.instr) change use ∧
      ∀ s, exec f.instr s = rmwOp (.mem f.operand) f.base change use s := by
  simp only [incDecForms, incForms, decForms, dcpForms, iscForms, List.forall_mem_append, List.forall_mem_cons,
    List.not_mem_nil, false_imp_iff, implies_true, and_true]
  and_intros
  all_goals
    refine ⟨_, _, by constructor, ?_⟩
    exact fun _ => rfl

theorem exec_shiftForms (d8 : Byte) (a16 : Addr) : ∀ f ∈ shiftForms d8 a16,
    ∃ shift use, Shifts (mnemonic f.instr) shift use ∧
      ∀ s, exec f.instr s = shiftOp (.mem f.operand) f.base shift use s := by
  simp only [shiftForms, aslForms, lsrForms, rolForms, rorForms, sloForms, rlaForms, sreForms, rraForms,
    List.forall_mem_append, List.forall_mem_cons, List.not_mem_nil, false_imp_iff, implies_true, and_true]
  and_intros
  all_goals
    refine ⟨_, _, by constructor, ?_⟩
    exact fun _ => rfl

/-- A modifying form writes one byte back at the address it read, and what it does with the byte stays inside the core. -/
theorem exec_modifyingForms (d8 : Byte) (a16 : Addr) (s : State) : ∀ f ∈ modifyingForms d8 a16,
    ∃ t b, exec f.instr s = .next t ∧ SameBus (rmwStore (.mem f.operand) b s) t := by
  intro f hf
  rcases mem_modifyingForms.mp hf with hf | hf
  · obtain ⟨change, use, h, hexec⟩ := exec_incDecForms d8 a16 f hf
    exact ⟨_, _, hexec s, h.sameBus _ _⟩
  · obtain ⟨shift, use, h, hexec⟩ := exec_shiftForms d8 a16 f hf
    exact ⟨_, _, hexec s, h.sameBus _ _⟩

/-! ### One access to the device -/

/-- The data read of a device comes after the pointer reads (20_memory.md R66). -/
theorem afterMemRead_devices_of_device {m : MemMode} {dev : Device} {s : State}
    (h : owner s.cfg s.latch .read (effAddr m s) = .device dev) :
    (afterMemRead m s).devices = .read dev (effAddr m s) :: (afterPointer m s).devices := by
  rw [afterMemRead, afterRead_of_device (s := afterPointer m s) (by simpa using h)]

/-- The write back to a device comes after the data read (20_memory.md R66, R71). -/
theorem rmwStore_of_device {m : MemMode} {dev : Device} (b : Byte) {s : State}
    (h : owner s.cfg s.latch .write (effAddr m s) = .device dev) :
    rmwStore (.mem m) b s =
      { afterMemRead m s with devices := .write dev (effAddr m s) b :: (afterMemRead m s).devices } :=
  busWrite_of_device b (by simpa using h)

/-- Settles O31: after the pointer reads a form makes the accesses of its operation, and what it then does with the byte is not on
the bus. -/
theorem deviceAccessesOnceAndInOrder : Obligations.DeviceAccessesOnceAndInOrder := by
  refine fun s d8 a16 dev => ⟨fun f hf m hm hread => ?_, fun f hf hwrite => ?_, fun f hf hread hwrite => ?_⟩
  · obtain ⟨use, h, hexec⟩ := exec_readingForms d8 a16 f hf
    obtain ⟨hram, hlatch, hdevices⟩ := h.sameBus (readValue f.operand s) (afterLoad f.operand s)
    refine ⟨_, hexec s, hdevices.trans ?_, hram.trans (afterLoad_ram ..), hlatch.trans (afterLoad_latch ..)⟩
    rw [hm]
    exact afterMemRead_devices_of_device hread
  · refine ⟨_, exec_storingForms d8 a16 s f hf, ?_⟩
    rw [busWrite_of_device f.2 (s := afterPointer f.1.operand s) (by simpa using hwrite)]
    simp
  · obtain ⟨t, b, hexec, hram, hlatch, hdevices⟩ := exec_modifyingForms d8 a16 s f hf
    rw [rmwStore_of_device b hwrite] at hram hlatch hdevices
    refine ⟨t, b, hexec, ?_, by simpa using hram, by simpa using hlatch⟩
    rw [hdevices, afterMemRead_devices_of_device hread]

end Sys2Proof.Proofs
end

section
/-! Encoding: the opcode map against the encoder and against R113's lists (30_encoding.md), and the step on what the decoder answers. -/

namespace Sys2Proof.Proofs

open Sys2Proof.Machine Sys2Proof.Claims Sys2Proof.Safety

/-- Settles O1, by the rule of each format. -/
theorem decodeOfEncodeIsTheInstruction : Obligations.DecodeOfEncodeIsTheInstruction := fun _ _ rest h => decode_encode h rest

/-! ### The opcode map against the encoder -/

/-- The instructions of a shape encode as this opcode and the operand of their format, and are optional as the map says. -/
inductive EncodesAs (op : Byte) (optional : Bool) : Shape → Prop where
  | f1 {i : Instr} (henc : encode i = bytesF1 op) (hopt : i.optional = optional) : EncodesAs op optional (.f1 i)
  | f2 {make : Byte → Instr} (henc : ∀ d8, encode (make d8) = bytesF2 op d8) (hopt : ∀ d8, (make d8).optional = optional) :
      EncodesAs op optional (.f2 make)
  | f3 {make : Addr → Instr} (henc : ∀ a16, encode (make a16) = bytesF3 op a16) (hopt : ∀ a16, (make a16).optional = optional) :
      EncodesAs op optional (.f3 make)

/-- R107's map and R108's encodings agree, entry by entry. -/
theorem encodesAs_of_mem_opcodeMap : ∀ row ∈ opcodeMap, ∀ e ∈ row, EncodesAs e.opcode e.optional e.shape := by
  simp only [opcodeMap, opcodeRow0, opcodeRow1, opcodeRow2, opcodeRow3, opcodeRow4, opcodeRow5, opcodeRow6, opcodeRow7,
    opcodeRow8, opcodeRow9, opcodeRowA, opcodeRowB, opcodeRowC, opcodeRowD, opcodeRowE, opcodeRowF, List.forall_mem_cons,
    List.not_mem_nil, false_imp_iff, implies_true, and_true]
  and_intros <;> constructor <;> intros <;> rfl

/-- The entry of the opcode map for an opcode (30_encoding.md R107). -/
def opcodeEntry (op : Byte) : Option OpcodeEntry := (opcodeMap.getD (op.toNat / 16) []).find? fun e => e.opcode == op

/-- The table is the map without the optional entries under `none` (30_encoding.md R112). -/
theorem lookupOpcode_of_opcodeEntry_none {op : Byte} (h : opcodeEntry op = none) (u : UndocSet) :
    lookupOpcode u op = .error (.undefinedOpcode op) := by
  unfold opcodeEntry at h
  simp only [lookupOpcode, h]

theorem lookupOpcode_of_opcodeEntry_some {op : Byte} {e : OpcodeEntry} (h : opcodeEntry op = some e) (u : UndocSet) :
    lookupOpcode u op = if e.optional && u == .none then .error (.optionalOpcode op) else .ok e.shape := by
  unfold opcodeEntry at h
  simp only [lookupOpcode, h]

/-- An entry that is found encodes as the opcode it was sought by. -/
theorem encodesAs_of_opcodeEntry {op : Byte} {e : OpcodeEntry} (h : opcodeEntry op = some e) :
    EncodesAs op e.optional e.shape := by
  obtain rfl : e.opcode = op := by simpa using List.find?_some h
  have hmem := List.mem_of_find?_eq_some h
  rw [List.getD_eq_getElem?_getD] at hmem
  cases hrow : opcodeMap[e.opcode.toNat / 16]? with
  | none => simp [hrow] at hmem
  | some row => exact encodesAs_of_mem_opcodeMap row (List.mem_of_getElem? hrow) e (by simpa [hrow] using hmem)

/-- What the table holds for an opcode encodes as that opcode, and is optional only under `common`. -/
theorem encodesAs_of_lookupOpcode {u : UndocSet} {op : Byte} {shape : Shape} (h : lookupOpcode u op = .ok shape) :
    ∃ optional, EncodesAs op optional shape ∧ (!optional || u == .common) = true := by
  cases he : opcodeEntry op with
  | none => simp [lookupOpcode_of_opcodeEntry_none he] at h
  | some e =>
    rw [lookupOpcode_of_opcodeEntry_some he] at h
    split at h
    · cases h
    · cases h
      refine ⟨e.optional, encodesAs_of_opcodeEntry he, ?_⟩
      cases u <;> simp_all

/-- What the decoder accepts is the opcode and the operand of a format, before whatever follows (30_encoding.md R91). -/
theorem decode_cases {u : UndocSet} {bytes rest : List Byte} {i : Instr} (h : decode u bytes = .ok (i, rest)) :
    ∃ op, (lookupOpcode u op = .ok (.f1 i) ∧ bytes = bytesF1 op ++ rest) ∨
      (∃ make d8, lookupOpcode u op = .ok (.f2 make) ∧ i = make d8 ∧ bytes = bytesF2 op d8 ++ rest) ∨
      (∃ make a16, lookupOpcode u op = .ok (.f3 make) ∧ i = make a16 ∧ bytes = bytesF3 op a16 ++ rest) := by
  match bytes with
  | [] => cases h
  | op :: operands =>
    refine ⟨op, ?_⟩
    cases hl : lookupOpcode u op with
    | error e => simp [decode, hl] at h
    | ok shape =>
      match shape, operands with
      | .f1 _, operands =>
        obtain ⟨rfl, rfl⟩ : _ = i ∧ operands = rest := by simpa [decode, hl] using h
        exact .inl ⟨rfl, rfl⟩
      | .f2 make, d8 :: more =>
        obtain ⟨rfl, rfl⟩ : make d8 = i ∧ more = rest := by simpa [decode, hl] using h
        exact .inr (.inl ⟨make, d8, rfl, rfl, rfl⟩)
      | .f3 make, low :: high :: more =>
        obtain ⟨rfl, rfl⟩ : make (cat high low) = i ∧ more = rest := by simpa [decode, hl] using h
        exact .inr (.inr ⟨make, cat high low, rfl, rfl, by simp [bytesF3]⟩)
      | .f2 _, [] | .f3 _, [] | .f3 _, [_] => simp [decode, hl] at h

/-- Settles O2: each format's bytes are those of its entry in the opcode map. -/
theorem encodeOfDecodeIsTheBytes : Obligations.EncodeOfDecodeIsTheBytes := by
  intro u bytes i rest h
  obtain ⟨op, ⟨hl, rfl⟩ | ⟨make, d8, hl, rfl, rfl⟩ | ⟨make, a16, hl, rfl, rfl⟩⟩ := decode_cases h
  all_goals
    obtain ⟨optional, hshape, htable⟩ := encodesAs_of_lookupOpcode hl
    cases hshape
    next henc hopt => exact ⟨by rw [henc], by rwa [Instr.wellFormed, hopt]⟩

/-- Settles O3: each word is looked up in the opcode map. -/
theorem specWordsDecode : Obligations.SpecWordsDecode := ⟨rfl, rfl, rfl, rfl, rfl, rfl, rfl, rfl, rfl⟩

/-! ### The opcode map against R113's lists -/

/-- The map has no entry for R113's first list and an optional one for its second, and a documented one for every other opcode. -/
theorem opcodeEntry_optional : ∀ op : Byte,
    (opcodeEntry op).map OpcodeEntry.optional =
      if op ∈ fatalOpcodes then none else some (decide (op ∈ optionalOpcodes)) := by
  decide

/-- R113's lists have no opcode in common. -/
theorem not_mem_fatalOpcodes : ∀ op ∈ optionalOpcodes, op ∉ fatalOpcodes := by decide

theorem lookupOpcode_of_fatal {op : Byte} (h : op ∈ fatalOpcodes) (u : UndocSet) :
    lookupOpcode u op = .error (.undefinedOpcode op) :=
  lookupOpcode_of_opcodeEntry_none (by simpa [h] using opcodeEntry_optional op) u

theorem lookupOpcode_of_optional {op : Byte} (h : op ∈ optionalOpcodes) :
    lookupOpcode .none op = .error (.optionalOpcode op) ∧ ∃ shape, lookupOpcode .common op = .ok shape := by
  obtain ⟨e, he, hopt⟩ : ∃ e, opcodeEntry op = some e ∧ e.optional = true := by
    simpa [h, not_mem_fatalOpcodes op h] using opcodeEntry_optional op
  simp [lookupOpcode_of_opcodeEntry_some he, hopt]

theorem lookupOpcode_of_documented {op : Byte} (hf : op ∉ fatalOpcodes) (ho : op ∉ optionalOpcodes) (u : UndocSet) :
    ∃ shape, lookupOpcode u op = .ok shape := by
  obtain ⟨e, he, hopt⟩ : ∃ e, opcodeEntry op = some e ∧ e.optional = false := by
    simpa [hf, ho] using opcodeEntry_optional op
  simp [lookupOpcode_of_opcodeEntry_some he, hopt]

/-- An opcode outside the table is refused by the table's own error, whatever follows (30_encoding.md R112). -/
theorem decode_of_lookupOpcode_error {u : UndocSet} {op : Byte} {e : DecodeError} (h : lookupOpcode u op = .error e)
    (rest : List Byte) : decode u (op :: rest) = .error e := by
  simp [decode, h]

/-- No format has more than two operand bytes (30_encoding.md R91). -/
theorem decode_of_lookupOpcode_ok {u : UndocSet} {op : Byte} {shape : Shape} (h : lookupOpcode u op = .ok shape)
    (low high : Byte) (rest : List Byte) : ∃ i more, decode u (op :: low :: high :: rest) = .ok (i, more) := by
  cases shape <;> simp [decode, h]

/-- Settles O4: the table has an entry exactly where R113 says. -/
theorem opcodesOutsideTheTableAreRefused : Obligations.OpcodesOutsideTheTableAreRefused := by
  refine fun op rest => ⟨fun hf u => ?_, fun ho => ?_, fun hf ho u => ?_⟩
  · exact decode_of_lookupOpcode_error (lookupOpcode_of_fatal hf u) rest
  · obtain ⟨hnone, shape, hcommon⟩ := lookupOpcode_of_optional ho
    exact ⟨decode_of_lookupOpcode_error hnone rest, decode_of_lookupOpcode_ok hcommon _ _ rest⟩
  · obtain ⟨shape, hl⟩ := lookupOpcode_of_documented hf ho u
    exact decode_of_lookupOpcode_ok hl _ _ rest

/-! ### The step on what the decoder answers -/

/-- Settles O5: the step takes no interrupt, and the fetch finds the instruction. -/
theorem stepRunsTheDecodedInstruction : Obligations.StepRunsTheDecodedInstruction := by
  intro s i rest hcfg hfault hpoll hdecode
  have hfetch : fetchInstr (sampleIrq s) = some i := by
    rw [fetchInstr, show decode (sampleIrq s).cfg.undoc _ = _ from hdecode]
  rw [step_eq_boundary s hcfg hfault, boundary_eq_run s hpoll, runInstruction, hfetch]

theorem lookupOpcode_of_undefinedUnder {u : UndocSet} {op : Byte} (h : undefinedUnder u op) :
    ∃ e, lookupOpcode u op = .error e := by
  rcases h with hf | ⟨rfl, ho⟩
  · exact ⟨_, lookupOpcode_of_fatal hf u⟩
  · obtain ⟨hnone, _⟩ := lookupOpcode_of_optional ho
    exact ⟨_, hnone⟩

/-- After an opcode outside the table no operand byte is read, and there is no instruction (30_encoding.md R112). -/
theorem fetch_of_undefinedUnder {s : State} (h : undefinedUnder s.cfg.undoc (busRead s.pc s)) :
    fetchInstr s = none ∧ afterFetch s = afterRead s.pc s := by
  obtain ⟨e, he⟩ := lookupOpcode_of_undefinedUnder h
  have hcount : operandCount s.cfg.undoc (busRead s.pc s) = 0 := by simp [operandCount, he]
  simp [fetchInstr, fetchBytes, afterFetch, hcount, afterReads, decode_of_lookupOpcode_error he]

/-- Settles O8: the step takes no interrupt, and the fetch finds no instruction after its one read. -/
theorem undefinedOpcodeRaisesTheFault : Obligations.UndefinedOpcodeRaisesTheFault := by
  intro s hcfg hfault hnmi hirq hundefined
  obtain ⟨hfetch, hafter⟩ := fetch_of_undefinedUnder (s := sampleIrq s) hundefined
  refine ⟨fatalDecode (busRead s.pc s) s.pc (sampleIrq (afterRead s.pc s)), ?_, ?_⟩
  · rw [step_eq_boundary s hcfg hfault, boundary_eq_run s (pendingInterrupt_eq_none hnmi hirq), runInstruction, hfetch, hafter]
    rfl
  · simp [hnmi, irqLevel]

end Sys2Proof.Proofs
end

section
/-! The operands: effective addresses and page crossings as numbers, and operands in RAM (30_encoding.md R94–R105, R111). -/

namespace Sys2Proof.Proofs

open Sys2Proof.Machine Sys2Proof.Claims Sys2Proof.Safety

/-- The addresses of the zero page are those below 256. -/
theorem eq_zext16 {a : Addr} {b : Byte} (h : a.toNat = b.toNat) : a = zext16 b := BitVec.eq_of_toNat_eq (by simpa using h)

/-- A zero-page pointer as a number, the high byte's address wrapping at 256 (30_encoding.md R102, R103). -/
theorem zpPointer_toNat {z : Byte} {low high : Addr} (hlow : low.toNat = z.toNat) (hhigh : high.toNat = (z.toNat + 1) % 256)
    (s : State) : (zpPointer z s).toNat = (busRead high (afterRead low s)).toNat * 256 + (busRead low s).toNat := by
  obtain rfl := eq_zext16 hlow
  obtain rfl : high = zext16 (z + 1) := eq_zext16 (by simpa using hhigh)
  exact cat_toNat _ _

/-- Settles O28, by the pointer of the two indirect modes and the sums of the others. -/
theorem effectiveAddresses : Obligations.EffectiveAddresses := by
  refine fun s d8 a16 => ⟨?zp, ?zpx, ?zpy, rfl, ?abx, ?aby, fun low high hlow hhigh => ?izx,
    fun low high hlow hhigh => ?izy⟩
  case izx => exact zpPointer_toNat (by simpa using hlow) (by simpa using hhigh) s
  case izy => simp [effAddr, zpPointer_toNat hlow hhigh s]
  case zp | zpx | zpy | abx | aby => simp [effAddr]

/-- The page of an address is its block of 256 (00_scope.md R9). -/
theorem hi_eq_iff (v w : Addr) : hi v = hi w ↔ v.toNat / 256 = w.toNat / 256 := by
  rw [← BitVec.toNat_inj, hi_toNat, hi_toNat]

theorem ite_hi_bne (v w : Addr) : (if hi v != hi w then 1 else 0) = if v.toNat / 256 = w.toNat / 256 then 0 else 1 := by
  simp [hi_eq_iff]

/-- Settles O29: the modes that index an address compare its page before and after. -/
theorem pageCrossings : Obligations.PageCrossings := by
  refine fun s d8 a16 => ⟨ite_hi_bne _ _, ite_hi_bne _ _, fun base hbase => ?_, ?_, rfl⟩
  · obtain rfl : zpPointer d8 s = base := by simpa [effAddr, zext16] using hbase
    exact ite_hi_bne _ _
  · simp [pageCycle, pageCrossed]

/-- Only a device sees a read (20_memory.md R55, R67). -/
theorem afterRead_of_latch {a : Addr} {s : State} (h : owner s.cfg s.latch .read a = .latch) : afterRead a s = s := by
  simpa [h, readBy] using congrArg Prod.snd (read_eq_readBy a s)

/-- Pointer reads in a zero page without devices change nothing (30_encoding.md R102, R103). -/
theorem afterPointer_of_ram_or_latch (m : MemMode) {s : State}
    (h : ∀ z : Byte, owner s.cfg s.latch .read (zext16 z) = .ram ∨ owner s.cfg s.latch .read (zext16 z) = .latch) :
    afterPointer m s = s := by
  have hread (z : Byte) : afterRead (zext16 z) s = s := (h z).elim afterRead_of_ram afterRead_of_latch
  cases m with
  | zp | zpx | zpy | abs | abx | aby => rfl
  | izx | izy => simp [afterPointer, afterZpPointer, hread]

/-- Settles O30: the pointer reads change nothing, and RAM answers the data read. -/
theorem loadOperand : Obligations.LoadOperand := by
  refine fun s d8 m => ⟨rfl, rfl, fun hpointer hdata => ?_⟩
  simp only [readValue, memValue, afterLoad, afterMemRead, afterPointer_of_ram_or_latch m hpointer]
  exact ⟨busRead_of_ram hdata, afterRead_of_ram hdata⟩

end Sys2Proof.Proofs
end

section
/-! Loads and stores: the encoding and the next state of every reading and storing form (40_load_store.md R130–R135,
46_undocumented.md R241, R242). -/

namespace Sys2Proof.Proofs

open Sys2Proof.Machine Sys2Proof.Claims Sys2Proof.Safety

/-! ### The encodings of the forms -/

/-- The opcode and the length of an instruction's encoding. -/
def opcodeAndLength (i : Instr) : Option Byte × Nat := ((encode i).head?, (encode i).length)

theorem encoded_of_opcodeAndLength {operand : Type} {f : Form operand} (h : opcodeAndLength f.instr = (some f.opcode, f.len)) :
    f.encoded := by
  obtain ⟨hhead, hlength⟩ := Prod.mk.inj h
  obtain ⟨operands, hbytes⟩ := List.head?_eq_some_iff.mp hhead
  exact ⟨operands, hbytes, by simpa [hbytes] using hlength⟩

/-- The columns of the list agree, as lists, with what the encoder gives (30_encoding.md R108). -/
theorem encoded_readingForms {d8 : Byte} {a16 : Addr} {f : Form ReadOperand} (hf : f ∈ readingForms d8 a16) : f.encoded :=
  have hcolumns : (readingForms d8 a16).map (fun f => opcodeAndLength f.instr) =
      (readingForms d8 a16).map fun f => (some f.opcode, f.len) := rfl
  encoded_of_opcodeAndLength (List.map_inj_left.mp hcolumns f hf)

theorem encoded_storingForms {d8 : Byte} {a16 : Addr} {s : State} {f : Form MemMode × Byte} (hf : f ∈ storingForms d8 a16 s) :
    f.1.encoded :=
  have hcolumns : (storingForms d8 a16 s).map (fun f => opcodeAndLength f.1.instr) =
      (storingForms d8 a16 s).map fun f => (some f.1.opcode, f.1.len) := rfl
  encoded_of_opcodeAndLength (List.map_inj_left.mp hcolumns f hf)

/-- The addressing mode fixes the length (30_encoding.md R91, R92). -/
theorem len_of_mem_readingForms {d8 : Byte} {a16 : Addr} {f : Form ReadOperand} (hf : f ∈ readingForms d8 a16) :
    f.len = readLength f.operand :=
  have hcolumns : (readingForms d8 a16).map Form.len = (readingForms d8 a16).map fun f => readLength f.operand := rfl
  List.map_inj_left.mp hcolumns f hf

theorem len_of_mem_storingForms {d8 : Byte} {a16 : Addr} {s : State} {f : Form MemMode × Byte} (hf : f ∈ storingForms d8 a16 s) :
    f.1.len = memLength f.1.operand :=
  have hcolumns : (storingForms d8 a16 s).map (fun f => f.1.len) =
      (storingForms d8 a16 s).map fun f => memLength f.1.operand := rfl
  List.map_inj_left.mp hcolumns f hf

/-! ### The next state of a reading form -/

/-- A mnemonic does one thing with its operand. -/
theorem Reads.unique {mn : Mnemonic} {use use' : Byte → State → State} (h : Reads mn use) (h' : Reads mn use') : use = use' := by
  cases h <;> cases h' <;> rfl

/-- What is done with the operand neither sees nor changes `PC` and `cycles`. -/
theorem Reads.advance {mn : Mnemonic} {use : Byte → State → State} (h : Reads mn use) (b : Byte) (len k : Nat) (s : State) :
    advance len k (use b s) = use b (advance len k s) := by
  cases h <;> rfl

/-- Loading the operand and paying for the form is all that happens besides the use of the byte. -/
theorem advance_afterLoad {f : Form ReadOperand} (hlen : f.len = readLength f.operand) (s : State) :
    advance (readLength f.operand) (f.base + pageCycle f.operand s) (afterLoad f.operand s) = afterReading f s := by
  rw [afterLoad_eq, afterReading, hlen, Nat.add_assoc]
  rfl

/-- A reading form's next state is `afterReading` with the byte used as its mnemonic does. -/
theorem exec_eq_use_afterReading {d8 : Byte} {a16 : Addr} {f : Form ReadOperand} {use : Byte → State → State}
    (hf : f ∈ readingForms d8 a16) (huse : Reads (mnemonic f.instr) use) (s : State) :
    exec f.instr s = .next (use (readValue f.operand s) (afterReading f s)) := by
  obtain ⟨use', huse', hexec⟩ := exec_readingForms d8 a16 f hf
  obtain rfl := huse.unique huse'
  rw [hexec, readOp_eq, huse.advance, advance_afterLoad (len_of_mem_readingForms hf)]

/-- What the statements about reading instructions say of the forms of one mnemonic. -/
theorem encoded_and_exec_of_reads (d8 : Byte) (a16 : Addr) {mn : Mnemonic} {use : Byte → State → State} (huse : Reads mn use)
    {forms : List (Form ReadOperand)} (hforms : ∀ f ∈ forms, f ∈ readingForms d8 a16)
    (hmn : forms.map (fun f => mnemonic f.instr) = forms.map fun _ => mn) (s : State) :
    ∀ f ∈ forms, f.encoded ∧ exec f.instr s = .next (use (readValue f.operand s) (afterReading f s)) := by
  intro f hf
  obtain rfl : mnemonic f.instr = mn := List.map_inj_left.mp hmn f hf
  exact ⟨encoded_readingForms (hforms f hf), exec_eq_use_afterReading (hforms f hf) huse s⟩

/-- Settles O32: each load does with its operand what its mnemonic does. -/
theorem loads : Obligations.Loads := by
  refine fun s d8 a16 =>
    ⟨encoded_and_exec_of_reads d8 a16 .lda ?_ rfl s, encoded_and_exec_of_reads d8 a16 .ldx ?_ rfl s,
      encoded_and_exec_of_reads d8 a16 .ldy ?_ rfl s, encoded_and_exec_of_reads d8 a16 .lax ?_ rfl s⟩
  all_goals exact fun f hf => by simp [readingForms, hf]

/-! ### The next state of a storing form -/

/-- A bus write does to RAM, the latch and the devices what `storesByte` says. -/
theorem storesByte_busWrite (a : Addr) (b : Byte) (s : State) : storesByte a b s (busWrite a b s) := by
  rcases busWrite_cases a b s with ⟨howner, hwrite⟩ | ⟨howner, hwrite⟩ | ⟨dev, howner, hwrite⟩
  · simp only [storesByte, howner, hwrite, and_self, and_true]
    exact ⟨ramRead_ramWrite_same _ _ _, fun k hk => ramRead_ramWrite_other _ _ _ _ hk⟩
  · simp [storesByte, howner, hwrite]
  · simp [storesByte, howner, hwrite]

/-- A store is seen only in RAM, the latch and the devices. -/
theorem storesByte_of_sameBus {a : Addr} {b : Byte} {s t u : State} (h : storesByte a b s t) (hsame : SameBus t u) :
    storesByte a b s u := by
  obtain ⟨hram, hlatch, hdevices⟩ := hsame
  simpa only [storesByte, hram, hlatch, hdevices] using h

/-- The pointer reads, one write, and the form's length and cycles: that is a store at the effective address. -/
theorem storesAt_advance_busWrite {f : Form MemMode} (hlen : f.len = memLength f.operand) (b : Byte) (s : State) :
    storesAt f b s (advance (memLength f.operand) f.base (busWrite (effAddr f.operand s) b (afterPointer f.operand s))) := by
  refine ⟨?_, storesByte_of_sameBus (storesByte_busWrite _ b _) ⟨rfl, rfl, rfl⟩⟩
  simp [advance, busWrite, hlen]

theorem encoded_and_storesAt (d8 : Byte) (a16 : Addr) {s : State} {f : Form MemMode} {b : Byte}
    (hf : (f, b) ∈ storingForms d8 a16 s) : f.encoded ∧ ∃ t, exec f.instr s = .next t ∧ storesAt f b s t :=
  ⟨encoded_storingForms hf, _, exec_storingForms d8 a16 s _ hf, storesAt_advance_busWrite (len_of_mem_storingForms hf) b s⟩

/-- Settles O33: each form of each list stores the byte it is listed with. -/
theorem stores : Obligations.Stores := by
  refine fun s d8 a16 => ⟨fun f hf => ?sta, fun f hf => ?stx, fun f hf => ?sty, fun f hf => ?sax⟩
  all_goals exact encoded_and_storesAt d8 a16 (by simp [storingForms, hf])

end Sys2Proof.Proofs
end

section
/-! Register transfers and stack instructions: the encodings and the next states (41_transfer_stack.md R140–R149). -/

namespace Sys2Proof.Proofs

open Sys2Proof.Machine Sys2Proof.Claims

/-! ### The next state of a transfer, said as an update of the fields that change -/

theorem advance_loadA (b : Byte) (k : Nat) (s : State) :
    advance 1 k (loadA b s) = { s with a := b, n := b.getLsbD 7, z := b == 0, pc := s.pc + 1, cycles := s.cycles + k } := rfl

theorem advance_loadX (b : Byte) (k : Nat) (s : State) :
    advance 1 k (loadX b s) = { s with x := b, n := b.getLsbD 7, z := b == 0, pc := s.pc + 1, cycles := s.cycles + k } := rfl

theorem advance_loadY (b : Byte) (k : Nat) (s : State) :
    advance 1 k (loadY b s) = { s with y := b, n := b.getLsbD 7, z := b == 0, pc := s.pc + 1, cycles := s.cycles + k } := rfl

theorem advance_setSpFromX (k : Nat) (s : State) :
    advance 1 k (setSpFromX s) = { s with sp := s.x, pc := s.pc + 1, cycles := s.cycles + k } := rfl

/-- Settles O34: five of the transfers load a register with another, and `TXS` sets `SP` alone. -/
theorem transfers : Obligations.Transfers := by
  refine ⟨rfl, rfl, rfl, rfl, rfl, rfl, fun s => ⟨?tax, ?tay, ?txa, ?tya, ?tsx, ?txs⟩⟩
  case tax => exact congrArg Host.Outcome.next (advance_loadX s.a 2 s)
  case tay => exact congrArg Host.Outcome.next (advance_loadY s.a 2 s)
  case txa => exact congrArg Host.Outcome.next (advance_loadA s.x 2 s)
  case tya => exact congrArg Host.Outcome.next (advance_loadA s.y 2 s)
  case tsx => exact congrArg Host.Outcome.next (advance_loadX s.sp 2 s)
  case txs => exact congrArg Host.Outcome.next (advance_setSpFromX 2 s)

/-! ### The next state of a push and of a pull -/

/-- A push stores the byte where `SP` points before it is lowered (10_state.md R24). -/
theorem storesByte_push (b : Byte) (s : State) : storesByte (stackAddr s.sp) b s (push b s) :=
  storesByte_of_sameBus (storesByte_busWrite _ b s) ⟨rfl, rfl, rfl⟩

/-- `t` is the next state of an instruction that pushes `b` and does nothing else (41_transfer_stack.md R146, R147). -/
def PushedByte (b : Byte) (s t : State) : Prop :=
  storesByte (cat 0x01 s.sp) b s t ∧
    t = { s with
      sp := s.sp - 1, pc := s.pc + 1, cycles := s.cycles + 3, latch := t.latch, ram := t.ram, devices := t.devices }

theorem pushedByte_advance_push (b : Byte) (s : State) : PushedByte b s (advance 1 3 (push b s)) :=
  ⟨storesByte_of_sameBus (storesByte_push b s) ⟨rfl, rfl, rfl⟩, rfl⟩

/-- A pull raises `SP` and lets the device there, if one answers, see the read (10_state.md R24). -/
theorem afterPull_eq (s : State) :
    afterPull s = { s with sp := s.sp + 1, devices := (afterRead (cat 0x01 (s.sp + 1)) s).devices } := rfl

theorem advance_pullA (s : State) :
    advance 1 4 (pullA s) =
      { s with
        a := pullByte s, n := (pullByte s).getLsbD 7, z := pullByte s == 0, sp := s.sp + 1, pc := s.pc + 1
        cycles := s.cycles + 4, devices := (afterRead (cat 0x01 (s.sp + 1)) s).devices } := by
  rw [pullA, advance_loadA, afterPull_eq]

theorem advance_pullP (s : State) :
    advance 1 4 (pullP s) =
      { s with
        n := (pullByte s).getLsbD 7, v := (pullByte s).getLsbD 6, d := (pullByte s).getLsbD 3, i := (pullByte s).getLsbD 2
        z := (pullByte s).getLsbD 1, c := (pullByte s).getLsbD 0, sp := s.sp + 1, pc := s.pc + 1
        cycles := s.cycles + 4, devices := (afterRead (cat 0x01 (s.sp + 1)) s).devices } := by
  rw [pullP, setP, afterPull_eq]
  rfl

/-- Settles O35: `PHA` and `PHP` push a byte, `PLA` and `PLP` use the byte they pull. -/
theorem stackInstructions : Obligations.StackInstructions := by
  refine ⟨rfl, rfl, rfl, rfl, fun s => ⟨⟨_, rfl, ?pha⟩, ⟨_, rfl, ?php⟩, ?pulls⟩⟩
  case pha => exact pushedByte_advance_push s.a s
  case php => exact pushedByte_advance_push (pByte true s) s
  case pulls =>
    rintro _ rfl
    exact ⟨congrArg Host.Outcome.next (advance_pullA s), congrArg Host.Outcome.next (advance_pullP s)⟩

end Sys2Proof.Proofs
end

section
/-! Logic, addition and subtraction, compares: the next states of their forms, and the arithmetic of the results
(42_logic_arith.md R160–R173). -/

namespace Sys2Proof.Proofs

open Sys2Proof.Machine Sys2Proof.Claims

/-! ### The next states of the forms -/

/-- Settles O37: each form uses its operand as its mnemonic does, and each use is an update of the fields named. -/
theorem logicInstructions : Obligations.LogicInstructions := by
  intro s d8 a16
  simp only [forall_eq]
  refine ⟨encoded_and_exec_of_reads d8 a16 .and ?_ rfl s, encoded_and_exec_of_reads d8 a16 .ora ?_ rfl s,
    encoded_and_exec_of_reads d8 a16 .eor ?_ rfl s, encoded_and_exec_of_reads d8 a16 .bit ?_ rfl s⟩
  all_goals exact fun f hf => by simp [readingForms, hf]

/-- Settles O38: the addition and the subtraction choose their result by `D`. -/
theorem addAndSubtract : Obligations.AddAndSubtract := by
  intro s d8 a16
  simp only [forall_eq]
  refine ⟨encoded_and_exec_of_reads d8 a16 .adc ?_ rfl s, encoded_and_exec_of_reads d8 a16 .sbc ?_ rfl s⟩
  all_goals exact fun f hf => by simp [readingForms, hf]

/-- Settles O41: the three compares differ in the register. -/
theorem compares : Obligations.Compares := by
  intro s d8 a16
  simp only [forall_eq]
  refine ⟨encoded_and_exec_of_reads d8 a16 .cmp ?_ rfl s, encoded_and_exec_of_reads d8 a16 .cpx ?_ rfl s,
    encoded_and_exec_of_reads d8 a16 .cpy ?_ rfl s⟩
  all_goals exact fun f hf => by simp [readingForms, hf]

/-! ### Bytes and carries as numbers -/

theorem carryNat_le_one (c : Bool) : carryNat c ≤ 1 := by cases c <;> decide

/-- The complement of a byte, as `SBC` writes it (42_logic_arith.md R167). -/
theorem xor_ff (b : Byte) : b ^^^ 0xFF = ~~~b := BitVec.xor_allOnes

theorem xor_ff_toNat (b : Byte) : (b ^^^ 0xFF).toNat = 255 - b.toNat := by
  rw [xor_ff, BitVec.toNat_not]

/-- The mask of the flag rules picks the sign (42_logic_arith.md R165, R167). -/
theorem and_signMask_bne_zero (b : Byte) : (b &&& 0x80 != 0) = b.msb := by
  have hmask : b &&& 0x80 = if b.getLsbD 7 = true then 0x80 else 0 := BitVec.and_twoPow b 7
  rw [hmask, b.msb_eq_getLsbD_last]
  cases b.getLsbD 7 <;> rfl

/-- `b & $F0` is the high digit in place (42_logic_arith.md R166). -/
theorem highPart_eq (b : Byte) : highPart b = b.toNat / 16 * 16 := by
  have hmask : b &&& (0xF0 : Byte) = b >>> 4 <<< 4 := (BitVec.shiftLeft_ushiftRight (n := 4)).symm
  have hb : b.toNat < 256 := b.isLt
  rw [highPart, hmask, BitVec.toNat_shiftLeft, BitVec.toNat_ushiftRight, Nat.shiftLeft_eq, Nat.shiftRight_eq_div_pow]
  omega

/-- Bit 7 of a number is the sign of its low byte. -/
theorem testBit_seven (t : Nat) : t.testBit 7 = true ↔ 128 ≤ t % 256 := by
  rw [Nat.testBit_eq_decide_div_mod_eq, decide_eq_true_iff]
  omega

theorem ofInt_toNat (r : Int) : ((BitVec.ofInt 8 r).toNat : Int) = r % 256 := by
  rw [BitVec.toNat_ofInt]
  omega

/-! ### Binary addition and subtraction -/

theorem adcBinary_acc_toNat (a m : Byte) (c : Bool) :
    (adcBinary a m c).acc.toNat = (a.toNat + m.toNat + carryNat c) % 256 := BitVec.toNat_ofNat _ _

theorem adcBinary_c_iff (a m : Byte) (c : Bool) : (adcBinary a m c).c = true ↔ 255 < a.toNat + m.toNat + carryNat c :=
  decide_eq_true_iff

/-- The operands have one sign and the result the other (42_logic_arith.md R165). -/
theorem adcBinary_v_iff_msb (a m : Byte) (c : Bool) :
    (adcBinary a m c).v = true ↔ a.msb = m.msb ∧ a.msb ≠ (adcBinary a m c).acc.msb := by
  have hv : (adcBinary a m c).v = (~~~(a ^^^ m) &&& (a ^^^ (adcBinary a m c).acc)).msb := and_signMask_bne_zero _
  simp [hv, BitVec.msb_and, BitVec.msb_xor, BitVec.msb_not]

/-- The same as the signed sum out of range (42_logic_arith.md R165). -/
theorem adcBinary_v_iff (a m : Byte) (c : Bool) :
    (adcBinary a m c).v = true ↔
      a.toInt + m.toInt + carryNat c < -128 ∨ 127 < a.toInt + m.toInt + carryNat c := by
  have hr := adcBinary_acc_toNat a m c
  have hc := carryNat_le_one c
  simp only [adcBinary_v_iff_msb, BitVec.msb_eq_decide, BitVec.toInt_eq_toNat_cond, ne_eq, decide_eq_decide]
  omega

theorem adcBinary_z_iff (a m : Byte) (c : Bool) : (adcBinary a m c).z = true ↔ (adcBinary a m c).acc = 0 := beq_iff_eq

theorem sbcBinary_eq_adcBinary (a m : Byte) (c : Bool) : sbcBinary a m c = adcBinary a (m ^^^ 0xFF) c := by
  have hsigns : ~~~(a ^^^ (m ^^^ 0xFF)) = a ^^^ m := by rw [xor_ff, BitVec.not_xor_right, BitVec.not_not]
  simp only [sbcBinary, adcBinary, hsigns]

theorem sbcBinary_acc_toNat (a m : Byte) (c : Bool) :
    (sbcBinary a m c).acc.toNat = (a.toNat + 256 + carryNat c - 1 - m.toNat) % 256 := by
  rw [sbcBinary_eq_adcBinary, adcBinary_acc_toNat, xor_ff_toNat]
  omega

theorem sbcBinary_c_iff (a m : Byte) (c : Bool) : (sbcBinary a m c).c = true ↔ m.toNat + 1 ≤ a.toNat + carryNat c := by
  rw [sbcBinary_eq_adcBinary, adcBinary_c_iff, xor_ff_toNat]
  omega

/-- Settles O39: the sum as a number, its two outcomes, and the subtraction as the sum with the complement. -/
theorem binaryArithmetic : Obligations.BinaryArithmetic := by
  rintro a m c _ rfl
  exact ⟨adcBinary_acc_toNat a m c, adcBinary_c_iff a m c, adcBinary_v_iff a m c, rfl, adcBinary_z_iff a m c,
    sbcBinary_eq_adcBinary a m c, sbcBinary_acc_toNat a m c, sbcBinary_c_iff a m c⟩

/-! ### Decimal addition and subtraction -/

/-- `Z` is of the binary sum (42_logic_arith.md R166). -/
theorem adcDecimal_z_iff (a m : Byte) (c : Bool) :
    (adcDecimal a m c).z = true ↔ (a.toNat + m.toNat + carryNat c) % 256 = 0 := by
  rw [← adcBinary_acc_toNat]
  exact (adcBinary_z_iff a m c).trans BitVec.toNat_inj.symm

/-- Settles O60: with the high digits in place as numbers, the sequences are the model's own. -/
theorem nmosDecimalSequences : Obligations.NmosDecimalSequences := by
  rintro a m c _ rfl
  simp only [← highPart_eq]
  refine ⟨?adc, ?sbc⟩
  case adc =>
    rintro _ _ _ _ _ rfl rfl rfl rfl rfl
    exact ⟨BitVec.toNat_ofNat _ _, decide_eq_true_iff, testBit_seven _,
      Bool.or_eq_true_iff.trans (or_congr decide_eq_true_iff decide_eq_true_iff), adcDecimal_z_iff a m c⟩
  case sbc =>
    rintro _ _ _ _ rfl rfl rfl rfl
    exact ⟨ofInt_toNat _, rfl, rfl, rfl, rfl⟩

/-! ### Decimal digits -/

/-- The byte holds the two decimal digits (00_scope.md section 7). -/
def IsBcd (b : Byte) (high low : Nat) : Prop := high < 10 ∧ low < 10 ∧ b.toNat = 16 * high + low

theorem IsBcd.validBcd {b : Byte} {high low : Nat} (h : IsBcd b high low) : validBcd b = true := by
  obtain ⟨hhigh, hlow, hb⟩ := h
  simp only [Machine.validBcd, Bool.and_eq_true, decide_eq_true_iff]
  omega

theorem IsBcd.bcdValue {b : Byte} {high low : Nat} (h : IsBcd b high low) : bcdValue b = 10 * high + low := by
  obtain ⟨hhigh, hlow, hb⟩ := h
  simp only [Machine.bcdValue]
  omega

theorem IsBcd.bcdByte {b : Byte} {high low : Nat} (h : IsBcd b high low) : bcdByte (10 * high + low) = b := by
  obtain ⟨hhigh, hlow, hb⟩ := h
  apply BitVec.eq_of_toNat_eq
  rw [Machine.bcdByte, BitVec.toNat_ofNat]
  omega

/-- The low-digit correction of an addition makes a decimal digit and a carry into the high digit (42_logic_arith.md R166). -/
theorem low_correction_add {t : Nat} (h : t < 20) : (if 10 ≤ t then (t + 6) % 16 + 16 else t) = 16 * (t / 10) + t % 10 := by
  split <;> omega

/-- The high-digit correction of an addition makes a decimal digit and a carry out (42_logic_arith.md R166). -/
theorem high_correction_add {u d : Nat} (hu : u < 20) (hd : d < 10) :
    (if 160 ≤ 16 * u + d then 16 * u + d + 96 else 16 * u + d) = 256 * (u / 10) + 16 * (u % 10) + d := by
  split <;> omega

/-- The low-digit correction of a subtraction makes a decimal digit and a borrow from the high digit (42_logic_arith.md R168). -/
theorem low_correction_sub {t : Int} (hlo : -10 ≤ t) (hhi : t < 10) :
    (if t < 0 then (t - 6) % 16 - 16 else t) = 16 * (t / 10) + t % 10 := by
  split <;> omega

/-- The high-digit correction of a subtraction makes a decimal digit and a borrow (42_logic_arith.md R168). -/
theorem high_correction_sub {u d : Int} (hlo : -10 ≤ u) (hhi : u < 10) (hd : 0 ≤ d) (hd' : d < 10) :
    (if 16 * u + d < 0 then 16 * u + d - 96 else 16 * u + d) = 256 * (u / 10) + 16 * (u % 10) + d := by
  split <;> omega

/-- Two decimal digits are fixed by their value modulo 100, so they are also the two digits of the byte. -/
theorem bcd_residue {q high low r1 r0 : Int} (hhigh : 0 ≤ high ∧ high < 10) (hlow : 0 ≤ low ∧ low < 10) (hr1 : 0 ≤ r1 ∧ r1 < 10)
    (hr0 : 0 ≤ r0 ∧ r0 < 10) (h : 10 * r1 + r0 = (100 * q + 10 * high + low) % 100) :
    (256 * q + 16 * high + low) % 256 = 16 * r1 + r0 := by
  obtain rfl : r1 = high := by omega
  obtain rfl : r0 = low := by omega
  omega

/-! ### Decimal arithmetic of valid operands is exact -/

section

variable {a m r : Byte} {a1 a0 m1 m0 r1 r0 k : Nat} {c : Bool}
  (ha : IsBcd a a1 a0) (hm : IsBcd m m1 m0) (hr : IsBcd r r1 r0) (hk : carryNat c = k)

include ha hm hr hk

theorem decimalCautious_adc (h : 10 * r1 + r0 = (10 * a1 + a0 + (10 * m1 + m0) + k) % 100) :
    (decimalCautious .adc a m c).acc = r ∧
      ((decimalCautious .adc a m c).c = true ↔ 100 ≤ 10 * a1 + a0 + (10 * m1 + m0) + k) := by
  simp [decimalCautious, ha.validBcd, hm.validBcd, bcdSum, ha.bcdValue, hm.bcdValue, hk, ← h, hr.bcdByte]

theorem decimalCautious_sbc (h : 10 * r1 + r0 = (10 * a1 + a0 + 100 + k - 1 - (10 * m1 + m0)) % 100) :
    (decimalCautious .sbc a m c).acc = r ∧
      ((decimalCautious .sbc a m c).c = true ↔ 10 * m1 + m0 + 1 ≤ 10 * a1 + a0 + k) := by
  have hborrow : 100 ≤ 10 * a1 + a0 + 100 + k - 1 - (10 * m1 + m0) ↔ 10 * m1 + m0 + 1 ≤ 10 * a1 + a0 + k := by
    obtain ⟨hm1, hm0, -⟩ := hm
    omega
  simp only [decimalCautious, ha.validBcd, hm.validBcd, bcdDifference, ha.bcdValue, hm.bcdValue, hk, ← h, hr.bcdByte]
  exact ⟨rfl, decide_eq_true_iff.trans hborrow⟩

theorem decimalNmos_adc (h : 10 * r1 + r0 = (10 * a1 + a0 + (10 * m1 + m0) + k) % 100) :
    (decimal .nmos .adc a m c).acc = r ∧
      ((decimal .nmos .adc a m c).c = true ↔ 100 ≤ 10 * a1 + a0 + (10 * m1 + m0) + k) := by
  have hcarry : k ≤ 1 := hk ▸ carryNat_le_one c
  obtain ⟨ha1, ha0, ha⟩ := ha
  obtain ⟨hm1, hm0, hm⟩ := hm
  obtain ⟨hr1, hr0, hr⟩ := hr
  obtain ⟨t, ht⟩ : ∃ t, t = a0 + m0 + k := ⟨_, rfl⟩
  obtain ⟨u, hu⟩ : ∃ u, u = a1 + m1 + t / 10 := ⟨_, rfl⟩
  obtain ⟨hacc, hc, -⟩ := (nmosDecimalSequences a m c k hk.symm).1 t (16 * (t / 10) + t % 10) (16 * u + t % 10)
    (256 * (u / 10) + 16 * (u % 10) + t % 10) _ (by omega) (low_correction_add (by omega)).symm (by omega)
    (high_correction_add (by omega) (by omega)).symm rfl
  have hresidue : ((256 * (u / 10 : Nat) + 16 * (u % 10 : Nat) + (t % 10 : Nat)) % 256 : Int) = 16 * r1 + r0 :=
    bcd_residue (by omega) (by omega) (by omega) (by omega) (by omega)
  rw [← BitVec.toNat_inj, hacc, hc, hr]
  omega

theorem decimalNmos_sbc (h : 10 * r1 + r0 = (10 * a1 + a0 + 100 + k - 1 - (10 * m1 + m0)) % 100) :
    (decimal .nmos .sbc a m c).acc = r ∧
      ((decimal .nmos .sbc a m c).c = true ↔ 10 * m1 + m0 + 1 ≤ 10 * a1 + a0 + k) := by
  have hcarry : k ≤ 1 := hk ▸ carryNat_le_one c
  obtain ⟨ha1, ha0, ha⟩ := ha
  obtain ⟨hm1, hm0, hm⟩ := hm
  obtain ⟨hr1, hr0, hr⟩ := hr
  obtain ⟨t, ht⟩ : ∃ t : Int, t = a0 - m0 + k - 1 := ⟨_, rfl⟩
  obtain ⟨u, hu⟩ : ∃ u : Int, u = a1 - m1 + t / 10 := ⟨_, rfl⟩
  obtain ⟨hacc, hc, -⟩ := (nmosDecimalSequences a m c k hk.symm).2 t (16 * (t / 10) + t % 10) (16 * u + t % 10)
    (256 * (u / 10) + 16 * (u % 10) + t % 10) (by omega) (low_correction_sub (by omega) (by omega)).symm (by omega)
    (high_correction_sub (by omega) (by omega) (by omega) (by omega)).symm
  rw [bcd_residue (r1 := r1) (r0 := r0) (by omega) (by omega) (by omega) (by omega) (by omega)] at hacc
  rw [← BitVec.toNat_inj, hc, sbcBinary_c_iff, hk, hr]
  omega

end

/-- Settles O40: the exact result is the cautious model's by definition, and what the two digit corrections of the sequences make. -/
theorem decimalArithmeticIsExact : Obligations.DecimalArithmeticIsExact := by
  intro algo c k a1 a0 m1 m0 r1 r0 a m r hk ha1 ha0 hm1 hm0 hr1 hr0 ha hm hr
  replace ha : IsBcd a a1 a0 := ⟨ha1, ha0, ha⟩
  replace hm : IsBcd m m1 m0 := ⟨hm1, hm0, hm⟩
  replace hr : IsBcd r r1 r0 := ⟨hr1, hr0, hr⟩
  cases algo with
  | nmos => exact ⟨decimalNmos_adc ha hm hr hk.symm, decimalNmos_sbc ha hm hr hk.symm⟩
  | cautious => exact ⟨decimalCautious_adc ha hm hr hk.symm, decimalCautious_sbc ha hm hr hk.symm⟩

end Sys2Proof.Proofs
end

section
/-! Increments, decrements, shifts and rotates: the encoding and the next state of every form that modifies memory, and the one-byte
instructions (43_incdec_shift.md R180–R189). -/

namespace Sys2Proof.Proofs

open Sys2Proof.Machine Sys2Proof.Claims Sys2Proof.Safety

/-! ### The columns of the modifying forms -/

theorem encoded_modifyingForms {d8 : Byte} {a16 : Addr} {f : Form MemMode} (hf : f ∈ modifyingForms d8 a16) : f.encoded :=
  have hcolumns : (modifyingForms d8 a16).map (fun f => opcodeAndLength f.instr) =
      (modifyingForms d8 a16).map fun f => (some f.opcode, f.len) := rfl
  encoded_of_opcodeAndLength (List.map_inj_left.mp hcolumns f hf)

theorem len_of_mem_modifyingForms {d8 : Byte} {a16 : Addr} {f : Form MemMode} (hf : f ∈ modifyingForms d8 a16) :
    f.len = memLength f.operand :=
  have hcolumns : (modifyingForms d8 a16).map Form.len = (modifyingForms d8 a16).map fun f => memLength f.operand := rfl
  List.map_inj_left.mp hcolumns f hf

/-! ### The next state of a modifying form -/

/-- The state `t` with the registers and flags of `after`: of `t` stay `PC`, `cycles` and what the bus holds. -/
def onto (t after : State) : State :=
  { after with pc := t.pc, cycles := t.cycles, latch := t.latch, ram := t.ram, devices := t.devices }

/-- Reading a byte and writing one back changes nothing but the bus. -/
theorem rmwStore_eq_onto (m : MemMode) (r : Byte) (s : State) : rmwStore (.mem m) r s = onto (rmwStore (.mem m) r s) s := by
  rw [rmwStore, afterMemRead_eq]
  rfl

theorem setC_onto (c : Bool) (t s : State) : setC c (onto t s) = onto t (setC c s) := rfl

/-- What is done with the new byte neither sees nor changes `PC`, `cycles` and the bus. -/
theorem Modifies.use_onto {mn : Mnemonic} {change : Byte → Byte} {use : Byte → State → State} (h : Modifies mn change use)
    (b : Byte) (t s : State) : use b (onto t s) = onto t (use b s) := by
  cases h <;> rfl

theorem Shifts.use_onto {mn : Mnemonic} {shift : Byte → Bool → Byte × Bool} {use : Byte → State → State} (h : Shifts mn shift use)
    (b : Byte) (t s : State) : use b (onto t s) = onto t (use b s) := by
  cases h <;> rfl

/-- A mnemonic changes the byte in one way and does one thing with the new one. -/
theorem Modifies.unique {mn : Mnemonic} {change change' : Byte → Byte} {use use' : Byte → State → State}
    (h : Modifies mn change use) (h' : Modifies mn change' use') : change = change' ∧ use = use' := by
  cases h <;> cases h' <;> exact ⟨rfl, rfl⟩

theorem Shifts.unique {mn : Mnemonic} {shift shift' : Byte → Bool → Byte × Bool} {use use' : Byte → State → State}
    (h : Shifts mn shift use) (h' : Shifts mn shift' use') : shift = shift' ∧ use = use' := by
  cases h <;> cases h' <;> exact ⟨rfl, rfl⟩

/-- The byte written back, the form's length and cycles, and the registers and flags of `after`: that is what `modifiesAt` says. -/
theorem modifiesAt_onto {f : Form MemMode} (hlen : f.len = memLength f.operand) (r : Byte) (after s : State) :
    modifiesAt f r after s (onto (advance (memLength f.operand) f.base (rmwStore (.mem f.operand) r s)) after) := by
  refine ⟨?_, storesByte_of_sameBus (storesByte_busWrite _ r _) ⟨rfl, rfl, rfl⟩⟩
  simp [onto, advance, hlen]

/-- What the statements about increments and decrements, composites among them, say of the forms of one mnemonic. -/
theorem encoded_and_modifiesAt_of_modifies (d8 : Byte) (a16 : Addr) {mn : Mnemonic} {change : Byte → Byte}
    {use : Byte → State → State} (huse : Modifies mn change use) {forms : List (Form MemMode)}
    (hforms : ∀ f ∈ forms, f ∈ incDecForms d8 a16) (hmn : forms.map (fun f => mnemonic f.instr) = forms.map fun _ => mn) (s : State) :
    ∀ f ∈ forms, f.encoded ∧ ∀ r, r = change (memValue f.operand s) →
      ∃ t, exec f.instr s = .next t ∧ modifiesAt f r (use r s) s t := by
  intro f hf
  obtain rfl : mnemonic f.instr = mn := List.map_inj_left.mp hmn f hf
  have hmem : f ∈ modifyingForms d8 a16 := mem_modifyingForms.mpr (.inl (hforms f hf))
  obtain ⟨change', use', huse', hexec⟩ := exec_incDecForms d8 a16 f (hforms f hf)
  obtain ⟨rfl, rfl⟩ := huse.unique huse'
  refine ⟨encoded_modifyingForms hmem, ?_⟩
  rintro r rfl
  refine ⟨_, ?_, modifiesAt_onto (len_of_mem_modifyingForms hmem) _ _ s⟩
  rw [hexec, rmwOp_eq, rmwStore_eq_onto, huse.use_onto]
  rfl

/-- What the statements about shifts and rotates, composites among them, say of the forms of one mnemonic. -/
theorem encoded_and_modifiesAt_of_shifts (d8 : Byte) (a16 : Addr) {mn : Mnemonic} {shift : Byte → Bool → Byte × Bool}
    {use : Byte → State → State} (huse : Shifts mn shift use) {forms : List (Form MemMode)}
    (hforms : ∀ f ∈ forms, f ∈ shiftForms d8 a16) (hmn : forms.map (fun f => mnemonic f.instr) = forms.map fun _ => mn) (s : State) :
    ∀ f ∈ forms, f.encoded ∧ ∀ r c, shift (memValue f.operand s) s.c = (r, c) →
      ∃ t, exec f.instr s = .next t ∧ modifiesAt f r (use r (setC c s)) s t := by
  intro f hf
  obtain rfl : mnemonic f.instr = mn := List.map_inj_left.mp hmn f hf
  have hmem : f ∈ modifyingForms d8 a16 := mem_modifyingForms.mpr (.inr (hforms f hf))
  obtain ⟨shift', use', huse', hexec⟩ := exec_shiftForms d8 a16 f (hforms f hf)
  obtain ⟨rfl, rfl⟩ := huse.unique huse'
  refine ⟨encoded_modifyingForms hmem, fun r c hout => ⟨_, ?_, modifiesAt_onto (len_of_mem_modifyingForms hmem) r _ s⟩⟩
  rw [hexec, shiftOp_eq, rmwValue, hout, rmwStore_eq_onto, setC_onto, huse.use_onto]
  rfl

/-- Settles O42: the memory forms set `N` and `Z` from the new byte, and the others load a register with it. -/
theorem incrementsAndDecrements : Obligations.IncrementsAndDecrements := by
  refine ⟨rfl, rfl, rfl, rfl, fun s d8 a16 => ⟨?inc, ?dec, ?inx, ?iny, ?dex, ?dey⟩⟩
  case inc => exact encoded_and_modifiesAt_of_modifies d8 a16 .inc (fun f hf => by simp [incDecForms, hf]) rfl s
  case dec => exact encoded_and_modifiesAt_of_modifies d8 a16 .dec (fun f hf => by simp [incDecForms, hf]) rfl s
  case inx => exact congrArg Host.Outcome.next (advance_loadX (s.x + 1) 2 s)
  case iny => exact congrArg Host.Outcome.next (advance_loadY (s.y + 1) 2 s)
  case dex => exact congrArg Host.Outcome.next (advance_loadX (s.x - 1) 2 s)
  case dey => exact congrArg Host.Outcome.next (advance_loadY (s.y - 1) 2 s)

/-! ### One position, bit by bit -/

/-- `r` is `b` moved up one position, with `c` in at bit 0 (43_incdec_shift.md R186, R188). -/
def MovedUp (c : Bool) (b r : Byte) : Prop := ∀ k, k < 8 → r.getLsbD k = if k = 0 then c else b.getLsbD (k - 1)

/-- `r` is `b` moved down one position, with `c` in at bit 7 (43_incdec_shift.md R187, R189). -/
def MovedDown (c : Bool) (b r : Byte) : Prop := ∀ k, k < 8 → r.getLsbD k = if k = 7 then c else b.getLsbD (k + 1)

theorem MovedUp.rotateLeft_eq {c : Bool} {b r : Byte} (h : MovedUp c b r) : rotateLeft b c = (r, b.getLsbD 7) := by
  refine Prod.ext (BitVec.eq_of_getLsbD_eq fun k hk => (h k hk).symm ▸ ?_) rfl
  cases k with
  | zero => simp [rotateLeft]
  | succ k => simp [rotateLeft, hk, BitVec.getLsbD_eq_getElem (Nat.lt_of_succ_lt hk)]

theorem MovedDown.rotateRight_eq {c : Bool} {b r : Byte} (h : MovedDown c b r) : rotateRight b c = (r, b.getLsbD 0) := by
  refine Prod.ext (BitVec.eq_of_getLsbD_eq fun k hk => (h k hk).symm ▸ ?_) rfl
  by_cases h7 : k = 7
  · simp [rotateRight, h7]
  · have hlt : k < 7 := by omega
    simp [rotateRight, h7, hlt, hk, Nat.add_comm]

/-- A shift is the rotate through a clear carry. -/
theorem MovedUp.shiftLeft_eq {b r : Byte} (h : MovedUp false b r) (c : Bool) : shiftLeft b c = (r, b.getLsbD 7) :=
  h.rotateLeft_eq ▸ by simp [shiftLeft, rotateLeft, flagBit]

theorem MovedDown.shiftRight_eq {b r : Byte} (h : MovedDown false b r) (c : Bool) : shiftRight b c = (r, b.getLsbD 0) :=
  h.rotateRight_eq ▸ by simp [shiftRight, rotateRight, flagBit]

/-- Bit 7 after a move down is the bit that came in. -/
theorem MovedDown.getLsbD_seven {c : Bool} {b r : Byte} (h : MovedDown c b r) : r.getLsbD 7 = c := h 7 (by decide)

/-- `SetNZ` of the new byte, with the carry that left it and `N` said on its own. -/
theorem setNZ_setC {n : Bool} {r : Byte} (hn : r.getLsbD 7 = n) (c : Bool) (s : State) :
    setNZ r (setC c s) = { s with n := n, z := r == 0, c := c } := by
  rw [setNZ, hn]
  rfl

/-- The next state of a shift or rotate of `A`. -/
theorem shiftOp_acc {shift : Byte → Bool → Byte × Bool} {r : Byte} {n c : Bool} {s : State} (hout : shift s.a s.c = (r, c))
    (hn : r.getLsbD 7 = n) : shiftOp .acc 2 shift setNZ s = .next
      { s with a := r, n := n, z := r == 0, c := c, pc := s.pc + 1, cycles := s.cycles + 2 } := by
  rw [shiftOp_eq, rmwValue, hout, setNZ_setC hn]
  rfl

/-- The memory forms of a shift or rotate that moves the byte to `r` and does no more with it. -/
theorem encoded_and_modifiesAt_of_moved (d8 : Byte) (a16 : Addr) {mn : Mnemonic} {shift : Byte → Bool → Byte × Bool}
    (huse : Shifts mn shift setNZ) {forms : List (Form MemMode)} (hforms : ∀ f ∈ forms, f ∈ shiftForms d8 a16)
    (hmn : forms.map (fun f => mnemonic f.instr) = forms.map fun _ => mn) {s : State} {moved : Byte → Prop} {n : Bool}
    {r : Byte} {out : Byte → Bool} (hmoved : ∀ b, moved b → shift b s.c = (r, out b) ∧ r.getLsbD 7 = n) :
    ∀ f ∈ forms, f.encoded ∧ ∀ b, b = memValue f.operand s → moved b →
      ∃ t, exec f.instr s = .next t ∧ modifiesAt f r { s with n := n, z := r == 0, c := out b } s t := by
  intro f hf
  obtain ⟨hencoded, hexec⟩ := encoded_and_modifiesAt_of_shifts d8 a16 huse hforms hmn s f hf
  refine ⟨hencoded, ?_⟩
  rintro b rfl hb
  obtain ⟨hout, hn⟩ := hmoved _ hb
  exact setNZ_setC hn _ s ▸ hexec r _ hout

/-- Settles O43: the new byte is determined bit by bit, and `N` of a move down is the bit that came in. -/
theorem shiftsAndRotates : Obligations.ShiftsAndRotates := by
  refine ⟨rfl, rfl, rfl, rfl, fun s d8 a16 r => ⟨?aslAcc, ?lsrAcc, ?rolAcc, ?rorAcc, ?asl, ?lsr, ?rol, ?ror⟩⟩
  case aslAcc => exact fun h => shiftOp_acc (MovedUp.shiftLeft_eq h s.c) rfl
  case lsrAcc => exact fun h => shiftOp_acc (MovedDown.shiftRight_eq h s.c) (MovedDown.getLsbD_seven h)
  case rolAcc => exact fun h => shiftOp_acc (MovedUp.rotateLeft_eq h) rfl
  case rorAcc => exact fun h => shiftOp_acc (MovedDown.rotateRight_eq h) (MovedDown.getLsbD_seven h)
  case asl =>
    exact encoded_and_modifiesAt_of_moved d8 a16 .asl (fun f hf => by simp [shiftForms, hf]) rfl
      fun b (h : MovedUp false b r) => ⟨h.shiftLeft_eq s.c, rfl⟩
  case lsr =>
    exact encoded_and_modifiesAt_of_moved d8 a16 .lsr (fun f hf => by simp [shiftForms, hf]) rfl
      fun b (h : MovedDown false b r) => ⟨h.shiftRight_eq s.c, h.getLsbD_seven⟩
  case rol =>
    exact encoded_and_modifiesAt_of_moved d8 a16 .rol (fun f hf => by simp [shiftForms, hf]) rfl
      fun b (h : MovedUp s.c b r) => ⟨h.rotateLeft_eq, rfl⟩
  case ror =>
    exact encoded_and_modifiesAt_of_moved d8 a16 .ror (fun f hf => by simp [shiftForms, hf]) rfl
      fun b (h : MovedDown s.c b r) => ⟨h.rotateRight_eq, h.getLsbD_seven⟩

end Sys2Proof.Proofs
end

section
/-! Jumps, subroutines and branches: the encodings and the next states (44_control.md R200–R212). -/

namespace Sys2Proof.Proofs

open Sys2Proof.Machine Sys2Proof.Claims

/-! ### Jumps -/

/-- The pointer's high byte lies in the pointer's own page (44_control.md R201). -/
theorem indHighAddr_toNat (a16 : Addr) : (indHighAddr a16).toNat = a16.toNat / 256 * 256 + (a16.toNat + 1) % 256 := by
  simp [indHighAddr]

/-- Settles O44: `indHighAddr` is the one address with that number. -/
theorem jumps : Obligations.Jumps := by
  refine fun s a16 next => ⟨rfl, rfl, rfl, fun hnext => ?_⟩
  obtain rfl : indHighAddr a16 = next := BitVec.eq_of_toNat_eq ((indHighAddr_toNat a16).trans hnext.symm)
  rfl

/-! ### What a chain of writes leaves alone -/

theorem ramFrame_busWrite (a : Addr) (b : Byte) (s : State) : ramFrame [a] s (busWrite a b s) :=
  fun k hk => ramRead_ramAfterWrite_other a b s k (hk a (List.mem_singleton_self a))

theorem ramFrame_trans {written written' : List Addr} {s t u : State} (h : ramFrame written s t) (h' : ramFrame written' t u) :
    ramFrame (written ++ written') s u := fun k hk =>
  (h' k fun a ha => hk a (List.mem_append_right _ ha)).trans (h k fun a ha => hk a (List.mem_append_left _ ha))

/-! ### Subroutines -/

/-- The two pushes of a `JSR` as two bus writes (44_control.md R202). -/
theorem pushReturn_eq (s : State) :
    pushReturn s =
      { busWrite (cat 0x01 (s.sp - 1)) (lo (s.pc + 2)) (busWrite (cat 0x01 s.sp) (hi (s.pc + 2)) s) with sp := s.sp - 2 } := by
  have hsp : s.sp - 2 = s.sp - 1 - 1 := (BitVec.sub_sub s.sp 1 1).symm
  rw [hsp]
  rfl

/-- Two pulls raise `SP` by 2 and let the devices there, if any answer, see the reads (10_state.md R24). -/
theorem afterPull_afterPull_eq (s : State) :
    afterPull (afterPull s) =
      { s with
        sp := s.sp + 2
        devices := (afterRead (cat 0x01 (s.sp + 2)) (afterRead (cat 0x01 (s.sp + 1)) s)).devices } := by
  have hsp : s.sp + 2 = s.sp + 1 + 1 := (BitVec.add_assoc s.sp 1 1).symm
  rw [hsp]
  rfl

/-- The byte of the second pull (10_state.md R24). -/
theorem pullByte_afterPull (s : State) :
    pullByte (afterPull s) = busRead (cat 0x01 (s.sp + 2)) (afterRead (cat 0x01 (s.sp + 1)) s) := by
  have hsp : s.sp + 2 = s.sp + 1 + 1 := (BitVec.add_assoc s.sp 1 1).symm
  rw [hsp]
  rfl

/-- An `RTS` is two pulls and a jump (44_control.md R203). -/
theorem exec_rts (s : State) :
    exec .rts s = .next (jumpTo (cat (pullByte (afterPull s)) (pullByte s) + 1) 6 (afterPull (afterPull s))) := rfl

/-- Settles O45: the two pushes of a `JSR` are two bus writes, which is also its frame, and the two pulls of an `RTS` two bus reads. -/
theorem subroutines : Obligations.Subroutines := by
  refine fun s a16 => ⟨rfl, rfl, ?jsr, ?rts⟩
  case jsr =>
    rintro _ rfl
    exact ⟨congrArg (fun t => Host.Outcome.next (jumpTo a16 6 t)) (pushReturn_eq s),
      ramFrame_trans (ramFrame_busWrite _ _ s) (ramFrame_busWrite _ _ _)⟩
  case rts =>
    rintro _ rfl
    rw [exec_rts, afterPull_afterPull_eq, pullByte_afterPull]
    rfl

/-! ### A stack in RAM -/

/-- The byte of a pull that RAM answers (10_state.md R24). -/
theorem pullByte_of_ram (s : State) (m : Memory) {sp : Byte} (h : owner s.cfg s.latch .read (cat 0x01 sp) = .ram) :
    pullByte { s with sp := sp - 1, ram := m } = ramRead m (cat 0x01 sp).toNat := by
  simp only [pullByte, stackAddr, BitVec.sub_add_cancel]
  exact busRead_of_ram h

/-- A pull that RAM answers changes nothing but `SP` (10_state.md R24). -/
theorem afterPull_of_ram (s : State) (m : Memory) {sp : Byte} (h : owner s.cfg s.latch .read (cat 0x01 sp) = .ram) :
    afterPull { s with sp := sp - 1, ram := m } = { s with sp := sp, ram := m } := by
  simp only [afterPull, stackAddr, BitVec.sub_add_cancel]
  exact congrArg (setSp sp) (afterRead_of_ram (s := { s with sp := sp - 1, ram := m }) h)

/-- On a stack in RAM the two pushes of a `JSR` change RAM and `SP` alone (44_control.md R202). -/
theorem pushReturn_of_ram {s : State} (hhigh : ramBacked s (cat 0x01 s.sp)) (hlow : ramBacked s (cat 0x01 (s.sp - 1))) :
    pushReturn s =
      { s with
        sp := s.sp - 1 - 1
        ram := ramWrite (ramWrite s.ram (cat 0x01 s.sp).toNat (hi (s.pc + 2))) (cat 0x01 (s.sp - 1)).toNat (lo (s.pc + 2)) } := by
  obtain ⟨_, hhigh⟩ := hhigh
  obtain ⟨_, hlow⟩ := hlow
  rw [pushReturn, push_of_ram hhigh, push_of_ram hlow]
  rfl

/-- The two stack bytes of a `JSR` are different ones, also where `SP` wraps (10_state.md R24). -/
theorem stackAddr_ne_pred (sp : Byte) : (cat 0x01 sp).toNat ≠ (cat 0x01 (sp - 1)).toNat := by
  simp only [cat_toNat]
  bv_omega

/-- Pulling the return address of a `JSR` from a stack in RAM gives both bytes and `SP` back (44_control.md R202, R203). -/
theorem pulls_pushReturn_of_ram {s : State} (hhigh : ramBacked s (cat 0x01 s.sp)) (hlow : ramBacked s (cat 0x01 (s.sp - 1))) :
    pullByte (pushReturn s) = lo (s.pc + 2) ∧ pullByte (afterPull (pushReturn s)) = hi (s.pc + 2) ∧
    afterPull (afterPull (pushReturn s)) = { s with ram := (pushReturn s).ram } := by
  rw [pushReturn_of_ram hhigh hlow]
  obtain ⟨hhigh, _⟩ := hhigh
  obtain ⟨hlow, _⟩ := hlow
  rw [pullByte_of_ram s _ hlow, afterPull_of_ram s _ hlow, pullByte_of_ram s _ hhigh, afterPull_of_ram s _ hhigh]
  exact ⟨ramRead_ramWrite_same _ _ _,
    (ramRead_ramWrite_other _ _ _ _ (stackAddr_ne_pred s.sp)).trans (ramRead_ramWrite_same _ _ _), rfl⟩

@[simp] theorem pullByte_jumpTo (target : Addr) (k : Nat) (s : State) : pullByte (jumpTo target k s) = pullByte s := rfl

@[simp] theorem afterPull_jumpTo (target : Addr) (k : Nat) (s : State) :
    afterPull (jumpTo target k s) = jumpTo target k (afterPull s) := rfl

/-- Settles O46: the pulled address is that of the `JSR`'s last byte, and the stack's bytes stay written. -/
theorem returnAfterCall : Obligations.ReturnAfterCall := by
  intro s a16 hhigh hlow
  obtain ⟨hfirst, hsecond, hafter⟩ := pulls_pushReturn_of_ram hhigh hlow
  have hpc : cat (hi (s.pc + 2)) (lo (s.pc + 2)) + 1 = s.pc + 3 := by
    rw [cat_hi_lo]
    exact BitVec.add_assoc s.pc 2 1
  refine ⟨jumpTo a16 6 (pushReturn s), _, rfl, rfl, exec_rts _, ?_⟩
  simp only [pullByte_jumpTo, afterPull_jumpTo, hfirst, hsecond, hafter, hpc]
  rfl

/-! ### Branches -/

/-- The branches with their opcodes and conditions (44_control.md R205–R212). -/
def branchRows (d8 : Byte) (s : State) : List (Instr × Byte × Bool) :=
  [(.bcc d8, 0x90, !s.c), (.bcs d8, 0xB0, s.c), (.beq d8, 0xF0, s.z), (.bne d8, 0xD0, !s.z), (.bmi d8, 0x30, s.n),
   (.bpl d8, 0x10, !s.n), (.bvc d8, 0x50, !s.v), (.bvs d8, 0x70, s.v)]

theorem encode_of_mem_branchRows {d8 : Byte} {s : State} {b : Instr × Byte × Bool} (hb : b ∈ branchRows d8 s) :
    encode b.1 = [b.2.1, d8] :=
  have hcolumns : (branchRows d8 s).map (fun b => encode b.1) = (branchRows d8 s).map fun b => [b.2.1, d8] := rfl
  List.map_inj_left.mp hcolumns b hb

/-- All eight share one rule (44_control.md R204). -/
theorem exec_of_mem_branchRows {d8 : Byte} {s : State} {b : Instr × Byte × Bool} (hb : b ∈ branchRows d8 s) :
    exec b.1 s = branchOp b.2.2 d8 s :=
  have hcolumns : (branchRows d8 s).map (fun b => exec b.1 s) = (branchRows d8 s).map fun b => branchOp b.2.2 d8 s := rfl
  List.map_inj_left.mp hcolumns b hb

/-- The target as a number: the signed offset from the next instruction, modulo 65536 (44_control.md R204). -/
theorem branchTarget_toNat (d8 : Byte) (s : State) :
    ((branchTarget d8 s).toNat : Int) = ((s.pc.toNat : Int) + 2 + d8.toInt) % 65536 := by
  have hoffset : ((sext16 d8).toNat : Int) = d8.toInt % 65536 := by
    rw [sext16, BitVec.signExtend, BitVec.toNat_ofInt]
    omega
  simp only [branchTarget, BitVec.toNat_add, BitVec.ofNat_eq_ofNat, BitVec.toNat_ofNat]
  omega

/-- A taken branch costs a cycle more to another page than the next instruction's (44_control.md R204). -/
theorem takenCycles_eq (d8 : Byte) (s : State) :
    takenCycles d8 s = if (branchTarget d8 s).toNat / 256 = (s.pc + 2).toNat / 256 then 3 else 4 := by
  simp only [takenCycles, bne_iff_ne, ne_eq, hi_eq_iff, ite_not]

/-- Settles O47: each row's condition decides between the two jumps of the shared rule. -/
theorem branches : Obligations.Branches := by
  intro s d8 target htarget b hb
  obtain rfl : branchTarget d8 s = target :=
    BitVec.eq_of_toNat_eq (Int.ofNat_inj.mp ((branchTarget_toNat d8 s).trans htarget.symm))
  refine ⟨encode_of_mem_branchRows hb, ?_⟩
  rw [exec_of_mem_branchRows hb, branchOp, takenCycles_eq]
  rfl

end Sys2Proof.Proofs
end

section
/-! Flag instructions, `BRK` and `RTI`: the encodings and the next states (45_flags_system.md R220–R229). -/

namespace Sys2Proof.Proofs

open Sys2Proof.Machine Sys2Proof.Claims

/-! ### Flag instructions -/

theorem advance_setC (b : Bool) (k : Nat) (s : State) :
    advance 1 k (setC b s) = { s with c := b, pc := s.pc + 1, cycles := s.cycles + k } := rfl

theorem advance_setI (b : Bool) (k : Nat) (s : State) :
    advance 1 k (setI b s) = { s with i := b, pc := s.pc + 1, cycles := s.cycles + k } := rfl

theorem advance_setD (b : Bool) (k : Nat) (s : State) :
    advance 1 k (setD b s) = { s with d := b, pc := s.pc + 1, cycles := s.cycles + k } := rfl

theorem advance_setV (b : Bool) (k : Nat) (s : State) :
    advance 1 k (setV b s) = { s with v := b, pc := s.pc + 1, cycles := s.cycles + k } := rfl

/-- Settles O48: each instruction sets the flag of its name, and `NOP` sets none. -/
theorem flagInstructions : Obligations.FlagInstructions := by
  refine ⟨rfl, rfl, rfl, rfl, rfl, rfl, rfl, rfl, fun s => ⟨?clc, ?sec, ?cli, ?sei, ?cld, ?sed, ?clv, ?nop⟩⟩
  case clc => exact congrArg Host.Outcome.next (advance_setC false 2 s)
  case sec => exact congrArg Host.Outcome.next (advance_setC true 2 s)
  case cli => exact congrArg Host.Outcome.next (advance_setI false 2 s)
  case sei => exact congrArg Host.Outcome.next (advance_setI true 2 s)
  case cld => exact congrArg Host.Outcome.next (advance_setD false 2 s)
  case sed => exact congrArg Host.Outcome.next (advance_setD true 2 s)
  case clv => exact congrArg Host.Outcome.next (advance_setV false 2 s)
  case nop => rfl

/-! ### Taking an exception -/

/-- The three pushes of an exception as three bus writes (60_exceptions.md R270). -/
theorem pushFrame_eq (ret : Addr) (brk : Bool) (s : State) :
    pushFrame ret brk s = { framePushed ret (pByte brk s) s with sp := s.sp - 3 } := by
  have hsp₂ : s.sp - 2 = s.sp - 1 - 1 := (BitVec.sub_sub s.sp 1 1).symm
  have hsp₃ : s.sp - 3 = s.sp - 2 - 1 := (BitVec.sub_sub s.sp 2 1).symm
  rw [framePushed, hsp₃, hsp₂]
  rfl

/-- Taking an exception is its three bus writes, the vector's two reads and `I <- 1` (60_exceptions.md R270). -/
theorem takeException_eq (ret : Addr) (brk : Bool) (vector : Addr) (s : State) :
    takeException ret brk vector s =
      { framePushed ret (pByte brk s) s with
        sp := s.sp - 3, i := true, pc := vectorAt vector (framePushed ret (pByte brk s) s), cycles := s.cycles + 7
        devices := devicesAfterVector vector (framePushed ret (pByte brk s) s) } := by
  rw [takeException, pushFrame_eq]
  rfl

/-- Pushing a frame writes RAM at most at the frame's three addresses (60_exceptions.md R270). -/
theorem ramFrame_framePushed (ret : Addr) (status : Byte) (s : State) : ramFrame (frameAddrs s) s (framePushed ret status s) :=
  ramFrame_trans (ramFrame_trans (ramFrame_busWrite _ _ s) (ramFrame_busWrite _ _ _)) (ramFrame_busWrite _ _ _)

/-- Settles O49: `BRK` takes an exception whose return address is `PC + 2` and whose status byte has bit 4 set. -/
theorem breakTakesTheInterrupt : Obligations.BreakTakesTheInterrupt := by
  refine ⟨rfl, ?_⟩
  rintro s _ rfl
  exact ⟨congrArg Host.Outcome.next (takeException_eq (s.pc + 2) true vecIrq s), ramFrame_framePushed _ _ s⟩

/-! ### Returning from an exception -/

/-- Three pulls raise `SP` by 3 and let the devices there, if any answer, see the reads (10_state.md R24). -/
theorem afterPull_afterPull_afterPull_eq (s : State) :
    afterPull (afterPull (afterPull s)) =
      { s with
        sp := s.sp + 3
        devices := (afterRead (cat 0x01 (s.sp + 3))
          (afterRead (cat 0x01 (s.sp + 2)) (afterRead (cat 0x01 (s.sp + 1)) s))).devices } := by
  have hsp : s.sp + 3 = s.sp + 2 + 1 := (BitVec.add_assoc s.sp 2 1).symm
  rw [afterPull_afterPull_eq s, hsp]
  rfl

/-- The byte of the third pull (10_state.md R24). -/
theorem pullByte_afterPull_afterPull (s : State) :
    pullByte (afterPull (afterPull s)) =
      busRead (cat 0x01 (s.sp + 3)) (afterRead (cat 0x01 (s.sp + 2)) (afterRead (cat 0x01 (s.sp + 1)) s)) := by
  have hsp : s.sp + 3 = s.sp + 2 + 1 := (BitVec.add_assoc s.sp 2 1).symm
  rw [afterPull_afterPull_eq s, hsp]
  rfl

/-- The pulls of `PC` do not see the flags, so these may be set after the three pulls (45_flags_system.md R229). -/
theorem returnFromException_eq (s : State) :
    returnFromException s =
      jumpTo (cat (pullByte (afterPull (afterPull s))) (pullByte (afterPull s))) 6
        (setP (pullByte s) (afterPull (afterPull (afterPull s)))) := rfl

theorem exec_rti (s : State) : exec .rti s = .next (returnFromException s) := rfl

/-- Settles O50: the three pulls of a return are three bus reads. -/
theorem returnFromInterrupt : Obligations.ReturnFromInterrupt := by
  refine ⟨rfl, ?_⟩
  rintro s _ _ _ rfl rfl rfl
  rw [exec_rti, returnFromException_eq, afterPull_afterPull_afterPull_eq, pullByte_afterPull_afterPull, pullByte_afterPull]
  rfl

end Sys2Proof.Proofs
end

section
/-! The composites: the next states of their forms, and each as the sequence of its two documented instructions
(46_undocumented.md R240–R248). -/

namespace Sys2Proof.Proofs

open Sys2Proof.Machine Sys2Proof.Claims Sys2Proof.Safety

/-! ### One position, as a number -/

/-- Twice the byte with the carry added, modulo 256, is the byte moved up (43_incdec_shift.md R186, R188). -/
theorem MovedUp.of_toNat {c : Bool} {b r : Byte} (h : r.toNat = (b.toNat * 2 + if c then 1 else 0) % 256) : MovedUp c b r := by
  have hbit : r.toNat = Nat.bit c b.toNat % 2 ^ 8 := by
    rw [h, Nat.bit_val, Nat.mul_comm]
    cases c <;> rfl
  intro k hk
  rw [← BitVec.testBit_toNat, hbit, Nat.testBit_mod_two_pow]
  cases k with
  | zero => simp
  | succ k => simp [hk, Nat.testBit_bit_succ, BitVec.testBit_toNat]

/-- Half the byte, with 128 for the carry, is the byte moved down (43_incdec_shift.md R187, R189). -/
theorem MovedDown.of_toNat {c : Bool} {b r : Byte} (h : r.toNat = b.toNat / 2 + if c then 128 else 0) : MovedDown c b r := by
  have hsplit : r.toNat = 2 ^ 7 * c.toNat + b.toNat / 2 := by
    rw [h, Nat.add_comm]
    cases c <;> rfl
  have hhalf : b.toNat / 2 < 2 ^ 7 := by omega
  intro k hk
  rw [← BitVec.testBit_toNat, hsplit, Nat.testBit_two_pow_mul_add _ hhalf]
  by_cases h7 : k = 7
  · cases c <;> simp [h7]
  · have hlt : k < 7 := by omega
    simp [h7, hlt, Nat.testBit_div_two, BitVec.testBit_toNat]

/-! ### The next state of a composite -/

/-- `encoded_and_modifiesAt_of_modifies` with the old byte and the new one named. -/
theorem encoded_and_modifiesAt_of_changed (d8 : Byte) (a16 : Addr) {mn : Mnemonic} {change : Byte → Byte}
    {use : Byte → State → State} (huse : Modifies mn change use) {forms : List (Form MemMode)}
    (hforms : ∀ f ∈ forms, f ∈ incDecForms d8 a16) (hmn : forms.map (fun f => mnemonic f.instr) = forms.map fun _ => mn)
    (s : State) (b r : Byte) :
    ∀ f ∈ forms, f.encoded ∧ (b = memValue f.operand s → r = change b →
      ∃ t, exec f.instr s = .next t ∧ modifiesAt f r (use r s) s t) := by
  intro f hf
  obtain ⟨hencoded, hexec⟩ := encoded_and_modifiesAt_of_modifies d8 a16 huse hforms hmn s f hf
  exact ⟨hencoded, fun hb hr => hexec r (hb ▸ hr)⟩

/-- `encoded_and_modifiesAt_of_shifts` with the old byte named, and the new one determined by `moved`. -/
theorem encoded_and_modifiesAt_of_shifted (d8 : Byte) (a16 : Addr) {mn : Mnemonic} {shift : Byte → Bool → Byte × Bool}
    {use : Byte → State → State} (huse : Shifts mn shift use) {forms : List (Form MemMode)}
    (hforms : ∀ f ∈ forms, f ∈ shiftForms d8 a16) (hmn : forms.map (fun f => mnemonic f.instr) = forms.map fun _ => mn)
    {s : State} {b r : Byte} {moved : Prop} {c : Bool} (hmoved : moved → shift b s.c = (r, c)) :
    ∀ f ∈ forms, f.encoded ∧ (b = memValue f.operand s → moved →
      ∃ t, exec f.instr s = .next t ∧ modifiesAt f r (use r (setC c s)) s t) := by
  intro f hf
  obtain ⟨hencoded, hexec⟩ := encoded_and_modifiesAt_of_shifts d8 a16 huse hforms hmn s f hf
  exact ⟨hencoded, fun hb h => hexec r c (hb ▸ hmoved h)⟩

/-- Settles O52: each composite changes the byte as its first instruction does and uses the new one as its second does. -/
theorem composites : Obligations.Composites := by
  refine fun s d8 a16 b r out => ⟨?dcp, ?isc, ?slo, ?rla, ?sre, ?rra⟩
  case dcp => exact encoded_and_modifiesAt_of_changed d8 a16 .dcp (fun f hf => by simp [incDecForms, hf]) rfl s b r
  case isc =>
    have hforms := encoded_and_modifiesAt_of_changed d8 a16 .isc (forms := iscForms d8 a16)
      (fun f hf => by simp [incDecForms, hf]) rfl s b r
    exact fun f hf => (hforms f hf).imp_right fun hexec hb hr hout => hout ▸ hexec hb hr
  case slo =>
    exact encoded_and_modifiesAt_of_shifted d8 a16 .slo (fun f hf => by simp [shiftForms, hf]) rfl
      fun h => (MovedUp.of_toNat (c := false) h).shiftLeft_eq s.c
  case rla =>
    exact encoded_and_modifiesAt_of_shifted d8 a16 .rla (fun f hf => by simp [shiftForms, hf]) rfl
      fun h => (MovedUp.of_toNat h).rotateLeft_eq
  case sre =>
    exact encoded_and_modifiesAt_of_shifted d8 a16 .sre (fun f hf => by simp [shiftForms, hf]) rfl
      fun h => (MovedDown.of_toNat (c := false) h).shiftRight_eq s.c
  case rra =>
    have hforms := encoded_and_modifiesAt_of_shifted d8 a16 .rra (forms := rraForms d8 a16)
      (fun f hf => by simp [shiftForms, hf]) rfl fun h => (MovedDown.of_toNat (b := b) (r := r) (c := s.c) h).rotateRight_eq
    exact fun f hf => (hforms f hf).imp_right fun hexec hb hr hout => hout ▸ hexec hb hr

/-! ### A byte in RAM, read back -/

/-- The modes that read no pointer: the address comes from the operand and the index registers (30_encoding.md R95–R100). -/
inductive PointerFree : MemMode → Prop where
  | zp (d8 : Byte) : PointerFree (.zp d8)
  | zpx (d8 : Byte) : PointerFree (.zpx d8)
  | zpy (d8 : Byte) : PointerFree (.zpy d8)
  | abs (a16 : Addr) : PointerFree (.abs a16)
  | abx (a16 : Addr) : PointerFree (.abx a16)
  | aby (a16 : Addr) : PointerFree (.aby a16)

theorem PointerFree.afterPointer_eq {m : MemMode} (hm : PointerFree m) (s : State) : afterPointer m s = s := by
  cases hm <;> rfl

theorem PointerFree.effAddr_congr {m : MemMode} (hm : PointerFree m) {s t : State} (hx : t.x = s.x) (hy : t.y = s.y) :
    effAddr m t = effAddr m s := by
  cases hm <;> simp only [effAddr, hx, hy]

/-- On a byte in RAM a read-modify-write changes that byte alone (30_encoding.md R105, 20_memory.md R71). -/
theorem PointerFree.rmwStore_eq {m : MemMode} (hm : PointerFree m) {s : State} (hbacked : ramBacked s (effAddr m s)) (r : Byte) :
    rmwStore (.mem m) r s = { s with ram := ramWrite s.ram (effAddr m s).toNat r } := by
  obtain ⟨hread, hwrite⟩ := hbacked
  rw [rmwStore, afterMemRead, hm.afterPointer_eq, afterRead_of_ram hread, busWrite_of_ram hwrite]

/-- The byte that a read-modify-write left in RAM is what the same mode loads next, and loading it changes nothing. -/
theorem PointerFree.load_after_rmwStore {m : MemMode} (hm : PointerFree m) {s t : State} {r : Byte}
    (hbacked : ramBacked s (effAddr m s)) (hbus : SameBus (rmwStore (.mem m) r s) t) (hcfg : t.cfg = s.cfg) (hx : t.x = s.x)
    (hy : t.y = s.y) : memValue m t = r ∧ afterMemRead m t = t := by
  rw [hm.rmwStore_eq hbacked r] at hbus
  obtain ⟨hram, hlatch, -⟩ := hbus
  obtain ⟨howner, -⟩ := hbacked
  have hea : effAddr m t = effAddr m s := hm.effAddr_congr hx hy
  have hread : owner t.cfg t.latch .read (effAddr m t) = .ram := by
    rwa [hcfg, hlatch, hea]
  rw [memValue, afterMemRead, hm.afterPointer_eq, busRead_of_ram hread, afterRead_of_ram hread, hram, hea]
  exact ⟨ramRead_ramWrite_same _ _ _, rfl⟩

/-! ### A composite as a sequence -/

/-- A composite, the instruction that changes the byte and the one that uses it, with what each does (R243–R248). An increment
or decrement is here a shift that leaves the carry. -/
inductive Composes : Mnemonic → Mnemonic → Mnemonic → (Byte → Bool → Byte × Bool) → (Byte → State → State) → Prop where
  | dcp : Composes .dcp .dec .cmp (fun b c => (b - 1, c)) cmpA
  | isc : Composes .isc .inc .sbc (fun b c => (b + 1, c)) sbcA
  | slo : Composes .slo .asl .ora shiftLeft oraA
  | rla : Composes .rla .rol .and rotateLeft andA
  | sre : Composes .sre .lsr .eor shiftRight eorA
  | rra : Composes .rra .ror .adc rotateRight adcA

/-- What the second instruction does with its operand does not see `N` and `Z`, which the first has set, and sets both. -/
theorem Composes.use_setNZ {mn mn₁ mn₂ : Mnemonic} {shift : Byte → Bool → Byte × Bool} {use : Byte → State → State}
    (h : Composes mn mn₁ mn₂ shift use) (b r : Byte) (s : State) : use b (setNZ r s) = use b s := by
  cases h <;> rfl

/-- It neither sees nor changes `PC` and `cycles`. -/
theorem Composes.use_advance {mn mn₁ mn₂ : Mnemonic} {shift : Byte → Bool → Byte × Bool} {use : Byte → State → State}
    (h : Composes mn mn₁ mn₂ shift use) (b : Byte) (len k : Nat) (s : State) :
    use b (advance len k s) = advance len k (use b s) := by
  cases h <;> rfl

/-- On a byte in RAM the second instruction loads the byte that the first wrote back, and does with it what the composite does. -/
theorem Composes.sequence {mn mn₁ mn₂ : Mnemonic} {shift : Byte → Bool → Byte × Bool} {use : Byte → State → State}
    (h : Composes mn mn₁ mn₂ shift use) {m : MemMode} (hm : PointerFree m) {s : State} (hbacked : ramBacked s (effAddr m s))
    (base base' : Nat) :
    ∃ t u w, shiftOp (.mem m) base shift use s = .next t ∧ shiftOp (.mem m) base shift setNZ s = .next u ∧
      readOp (.mem m) base' use u = .next w ∧ t = { w with pc := t.pc, cycles := t.cycles } := by
  refine ⟨_, _, _, rfl, rfl, rfl, ?_⟩
  obtain ⟨r, c⟩ := shift (rmwValue (.mem m) s) s.c
  obtain ⟨hvalue, hafter⟩ := hm.load_after_rmwStore (r := r)
    (t := advance (memLength m) base (setNZ r (setC c (rmwStore (.mem m) r s)))) hbacked ⟨rfl, rfl, rfl⟩ (by simp) (by simp)
    (by simp)
  simp only [readValue, afterLoad, rmwLength, hvalue, hafter, h.use_advance, h.use_setNZ]
  rfl

/-- The operations behind a composite and its two instructions, in one mode (R240). -/
theorem exec_compositePairs (d8 : Byte) (a16 : Addr) : ∀ q ∈ compositePairs d8 a16, ∃ shift use,
    PointerFree q.2.2.2 ∧ Composes (mnemonic q.1) (mnemonic q.2.1) (mnemonic q.2.2.1) shift use ∧ ∃ base base',
    (∀ s, exec q.1 s = shiftOp (.mem q.2.2.2) base shift use s) ∧
    (∀ s, exec q.2.1 s = shiftOp (.mem q.2.2.2) base shift setNZ s) ∧
    ∀ s, exec q.2.2.1 s = readOp (.mem q.2.2.2) base' use s := by
  simp only [compositePairs, List.forall_mem_cons, List.not_mem_nil, false_imp_iff, implies_true, and_true]
  and_intros
  all_goals
    refine ⟨_, _, by constructor, by constructor, ?_⟩
    exact ⟨_, _, fun _ => rfl, fun _ => rfl, fun _ => rfl⟩

/-- Settles O53: in each pair the operations are those of `Composes.sequence`. -/
theorem compositesAreSequences : Obligations.CompositesAreSequences := by
  intro s d8 a16 q hq hbacked
  obtain ⟨shift, use, hmode, huse, base, base', hcomposite, hfirst, hsecond⟩ := exec_compositePairs d8 a16 q hq
  obtain ⟨t, u, w, ht, hu, hw, heq⟩ := huse.sequence hmode hbacked base base'
  exact ⟨t, u, w, (hcomposite s).trans ht, (hfirst s).trans hu, (hsecond u).trans hw, heq⟩

end Sys2Proof.Proofs
end

section
/-! Interrupts: the poll, the entry, the frame it pushes, and the return from it (60_exceptions.md R266–R275). -/

namespace Sys2Proof.Proofs

open Sys2Proof.Machine Sys2Proof.Claims

/-! ### The poll -/

/-- With an interrupt to take, the boundary enters it. -/
theorem boundary_eq_enter {s : State} {kind : InterruptKind} (h : pendingInterrupt (sampleIrq s) = some kind) :
    boundary s = .next (enter kind (sampleIrq s)) := by
  simp [boundary, h]

/-- The poll takes a pending NMI whatever the IRQ level and `I` are (60_exceptions.md R266). -/
theorem pendingInterrupt_eq_nmi {s : State} (hnmi : s.nmiPending = true) : pendingInterrupt (sampleIrq s) = some .nmi := by
  simp [pendingInterrupt, hnmi]

/-- Without a pending NMI the poll takes an IRQ whose level is asserted and not masked (60_exceptions.md R266). -/
theorem pendingInterrupt_eq_irq {s : State} (hnmi : s.nmiPending = false) (hlevel : s.irqSignals.any id = true) (hi : s.i = false) :
    pendingInterrupt (sampleIrq s) = some .irq := by
  simp [pendingInterrupt, hnmi, irqLevel, hlevel, hi]

/-- Settles O11: the boundary does what the poll of the sampled state answers. -/
theorem pollPriority : Obligations.PollPriority := by
  intro s hcfg hfault
  rw [step_eq_boundary s hcfg hfault]
  exact ⟨fun hnmi => boundary_eq_enter (pendingInterrupt_eq_nmi hnmi),
    fun hnmi hlevel hi => boundary_eq_enter (pendingInterrupt_eq_irq hnmi hlevel hi),
    fun hnmi hquiet => boundary_eq_run s (pendingInterrupt_eq_none hnmi hquiet.symm)⟩

/-! ### The entry -/

/-- Settles O9: the poll chooses the entry, whose exception neither sees nor changes the IRQ sample. -/
theorem interruptEntry : Obligations.InterruptEntry := by
  intro s hcfg hfault
  obtain ⟨hnmiFirst, hirqUnmasked, _⟩ := pollPriority s hcfg hfault
  refine ⟨fun hnmi => ?nmi, fun hnmi hlevel hi => ?irq⟩
  case nmi =>
    rw [hnmiFirst hnmi, enter, takeException_eq]
    rfl
  case irq =>
    rw [hirqUnmasked hnmi hlevel hi, enter, takeException_eq]
    rfl

/-! ### The frame of an entry, on a stack in RAM -/

/-- The hypothesis on the frame's addresses, said of each of them. -/
theorem forall_mem_frameAddrs {s : State} {p : Addr → Prop} :
    (∀ a ∈ frameAddrs s, p a) ↔ p (cat 0x01 s.sp) ∧ p (cat 0x01 (s.sp - 1)) ∧ p (cat 0x01 (s.sp - 2)) := by
  simp [frameAddrs]

/-- A write that RAM answers, after earlier ones that changed RAM alone (20_memory.md R51). -/
theorem busWrite_withRam_of_ram (s : State) (m : Memory) {a : Addr} (b : Byte) (h : owner s.cfg s.latch .write a = .ram) :
    busWrite a b { s with ram := m } = { s with ram := ramWrite m a.toNat b } := busWrite_of_ram (s := { s with ram := m }) h

/-- On a stack in RAM the three pushes change RAM alone (60_exceptions.md R270). -/
theorem framePushed_of_ram {s : State} (hbacked : ∀ a ∈ frameAddrs s, ramBacked s a) (ret : Addr) (status : Byte) :
    framePushed ret status s =
      { s with
        ram := ramWrite (ramWrite (ramWrite s.ram (cat 0x01 s.sp).toNat (hi ret)) (cat 0x01 (s.sp - 1)).toNat (lo ret))
          (cat 0x01 (s.sp - 2)).toNat status } := by
  obtain ⟨⟨_, hhigh⟩, ⟨_, hlow⟩, ⟨_, hstatus⟩⟩ := forall_mem_frameAddrs.mp hbacked
  rw [framePushed, busWrite_of_ram hhigh, busWrite_withRam_of_ram s _ _ hlow, busWrite_withRam_of_ram s _ _ hstatus]

theorem enter_ram_eq (kind : InterruptKind) (s : State) : (enter kind s).ram = (framePushed s.pc (pByte false s) s).ram := by
  rw [enter_ram, pushFrame_eq]

/-- On a stack in RAM the latch is not among the bytes pushed. -/
theorem enter_latch_of_ram {s : State} (hbacked : ∀ a ∈ frameAddrs s, ramBacked s a) (kind : InterruptKind) :
    (enter kind s).latch = s.latch := by
  rw [enter_latch, pushFrame_eq, framePushed_of_ram hbacked]

/-- The addresses two slots apart in the stack page are different ones, also where `SP` wraps (10_state.md R24). -/
theorem stackAddr_ne_pred_pred (sp : Byte) : (cat 0x01 sp).toNat ≠ (cat 0x01 (sp - 2)).toNat := by
  simp only [cat_toNat]
  bv_omega

/-- The bytes of the frame, each read where it was pushed: no push writes over an earlier one (60_exceptions.md R270). -/
theorem ramRead_enter {s : State} (hbacked : ∀ a ∈ frameAddrs s, ramBacked s a) (kind : InterruptKind) :
    ramRead (enter kind s).ram (cat 0x01 s.sp).toNat = hi s.pc ∧
    ramRead (enter kind s).ram (cat 0x01 (s.sp - 1)).toNat = lo s.pc ∧
    ramRead (enter kind s).ram (cat 0x01 (s.sp - 2)).toNat = pByte false s := by
  have hne : (cat 0x01 (s.sp - 1)).toNat ≠ (cat 0x01 (s.sp - 2)).toNat := by
    have hsp : s.sp - 2 = s.sp - 1 - 1 := (BitVec.sub_sub s.sp 1 1).symm
    rw [hsp]
    exact stackAddr_ne_pred _
  rw [enter_ram_eq, framePushed_of_ram hbacked]
  refine ⟨?high, ?low, ramRead_ramWrite_same _ _ _⟩
  case high =>
    rw [ramRead_ramWrite_other _ _ _ _ (stackAddr_ne_pred_pred s.sp), ramRead_ramWrite_other _ _ _ _ (stackAddr_ne_pred s.sp),
      ramRead_ramWrite_same]
  case low => rw [ramRead_ramWrite_other _ _ _ _ hne, ramRead_ramWrite_same]

/-- Settles O10: the addresses of the frame as numbers. -/
theorem entryFrameInRam : Obligations.EntryFrameInRam := by
  intro s kind hbacked
  have haddr : (cat 0x01 s.sp).toNat = 0x100 + s.sp.toNat := cat_toNat 0x01 s.sp
  have haddr₁ : (cat 0x01 (s.sp - 1)).toNat = 0x100 + (s.sp.toNat + 255) % 256 := by
    simp only [cat_toNat]
    bv_omega
  have haddr₂ : (cat 0x01 (s.sp - 2)).toNat = 0x100 + (s.sp.toNat + 254) % 256 := by
    simp only [cat_toNat]
    bv_omega
  obtain ⟨hhigh, hlow, hstatus⟩ := ramRead_enter hbacked kind
  rw [← haddr, ← haddr₁, ← haddr₂]
  refine ⟨hhigh, hlow, hstatus, fun k hk => ?_, ?_⟩
  · rw [enter_ram_eq]
    exact ramFrame_framePushed _ _ s k hk
  · rw [enter_sp]
    bv_omega

/-! ### The return from an entry -/

/-- A return whose three bytes lie at `sp`, `sp - 1` and `sp - 2` of a stack in RAM (45_flags_system.md R229). -/
theorem returnFromException_of_ram {t : State} {sp : Byte} (hsp : t.sp = sp - 1 - 1 - 1)
    (hhigh : owner t.cfg t.latch .read (cat 0x01 sp) = .ram) (hlow : owner t.cfg t.latch .read (cat 0x01 (sp - 1)) = .ram)
    (hstatus : owner t.cfg t.latch .read (cat 0x01 (sp - 2)) = .ram) :
    returnFromException t =
      jumpTo (cat (ramRead t.ram (cat 0x01 sp).toNat) (ramRead t.ram (cat 0x01 (sp - 1)).toNat)) 6
        (setP (ramRead t.ram (cat 0x01 (sp - 2)).toNat) { t with sp := sp }) := by
  have hsp₂ : sp - 2 = sp - 1 - 1 := (BitVec.sub_sub sp 1 1).symm
  rw [hsp₂] at hstatus ⊢
  have ht : t = { t with sp := sp - 1 - 1 - 1 } := by rw [← hsp]
  conv_lhs => rw [ht]
  rw [returnFromException_eq, pullByte_of_ram t _ hstatus, afterPull_of_ram t _ hstatus, pullByte_of_ram t _ hlow,
    afterPull_of_ram t _ hlow, pullByte_of_ram t _ hhigh, afterPull_of_ram t _ hhigh]

/-- Settles O51: the return pulls the bytes that the entry pushed. -/
theorem returnUndoesEntry : Obligations.ReturnUndoesEntry := by
  intro s kind hbacked
  obtain ⟨hhigh, hlow, hstatus⟩ := ramRead_enter hbacked kind
  have hlatch := enter_latch_of_ram hbacked kind
  have howner : ∀ a ∈ frameAddrs s, owner (enter kind s).cfg (enter kind s).latch .read a = .ram := fun a ha => by
    rw [enter_cfg, hlatch]
    exact (hbacked a ha).left
  obtain ⟨ownsHigh, ownsLow, ownsStatus⟩ := forall_mem_frameAddrs.mp howner
  refine ⟨_, exec_rti _, ?_⟩
  rw [returnFromException_of_ram (enter_sp kind s) ownsHigh ownsLow ownsStatus, hhigh, hlow, hstatus, cat_hi_lo, setP_pByte]
  simpa [jumpTo, intCycles] using hlatch

end Sys2Proof.Proofs
end

section
/-! Reset, and what the host does between and around steps: snapshots, its step, its runs (70_reset_and_hazards.md R300, R320–R325). -/

namespace Sys2Proof.Proofs

open Sys2Proof.Machine Sys2Proof.Claims

/-- Settles O54: what follows the fixed values is the read of the vector at `$FFFC`. -/
theorem resetTransition : Obligations.ResetTransition := by
  rintro s _ rfl
  rfl

/-- Settles O56: `save` and `load` each look at the fault record first; the record is what `save` answers for `s`. -/
theorem snapshotRoundTrip : Obligations.SnapshotRoundTrip := by
  intro s t nmi hs ht
  refine ⟨?_, fun f k => ⟨rfl, rfl⟩⟩
  rw [saveSnapshot, hs]
  refine ⟨_, rfl, ?_⟩
  rw [loadSnapshot, ht]

/-! ### The host's step -/

/-- A step that raises no fault adds cycles: an entry 7, an instruction at least 2. -/
theorem cycles_lt_of_step {s t : State} (h : step s = .next t) (hfault : t.fault = none) : s.cycles < t.cycles := by
  obtain ⟨_, _, ⟨kind, _, rfl⟩ | ⟨_, ⟨i, _, hexec⟩ | ⟨_, rfl⟩⟩⟩ := step_cases h
  · simp [intCycles]
  · obtain ⟨hlo, _⟩ := exec_cycles hexec
    simp only [afterFetch_cycles, sampleIrq_cycles] at hlo
    omega
  · simp at hfault

/-- A step that raises the fault is reported as that fault, with the state it leaves. -/
theorem hostStep_of_next_fault {s t : State} {op : Byte} {pc : Addr} (h : step s = .next t) (hfault : t.fault = some (op, pc)) :
    hostStep s = (.error op pc, t) := by
  simp [hostStep, h, hfault]

/-- A step that stops at a recorded fault is reported as that fault, with the state untouched. -/
theorem hostStep_of_fault {s : State} {op : Byte} {pc : Addr} (h : step s = .fault (.fatalDecode op pc)) :
    hostStep s = (.error op pc, s) := by
  simp [hostStep, h]

/-- Settles O58: a report of cycles is a step without a fault, and such a step adds cycles. -/
theorem hostStepReports : Obligations.HostStepReports := by
  intro s
  obtain ⟨hfaulted, _⟩ := faultedStateStandsStill
  refine ⟨fun t hstep hfault => ?_, fun _ _ _ => hostStep_of_next_fault, fun n t hreport => ?_,
    fun op pc hcfg hfault => hostStep_of_fault (hfaulted s op pc hcfg hfault)⟩
  · exact ⟨(hostStep_consumed_iff s t _).mpr ⟨hstep, hfault, rfl⟩, cycles_lt_of_step hstep hfault⟩
  · obtain ⟨hstep, hfault, rfl⟩ := (hostStep_consumed_iff s t n).mp hreport
    have hlt := cycles_lt_of_step hstep hfault
    exact ⟨hstep, hfault, by omega⟩

/-! ### Runs -/

section
variable {pred : State → Bool} {breakpoints : List Addr} {schedule : List EnvTurn} {first : Bool} {s t : State}

/-- With a fault a run reports it. -/
theorem runUntil_of_fault {op : Byte} {pc : Addr} (h : s.fault = some (op, pc)) :
    runUntil pred breakpoints schedule first s = (.error op pc, s) := by
  rw [runUntil_eq, h]

/-- Where the predicate holds a run stops. -/
theorem runUntil_of_pred (hfault : s.fault = none) (hpred : pred s = true) :
    runUntil pred breakpoints schedule first s = (.stopped, s) := by
  rw [runUntil_eq, hfault]
  exact if_pos hpred

/-- At a breakpoint that is not passed over a run stops with `PC` there. -/
theorem runUntil_of_breakpoint (hfault : s.fault = none) (hpred : ¬pred s = true) (hstop : (breakpoints.contains s.pc && !first) = true) :
    runUntil pred breakpoints schedule first s = (.breakpoint s.pc, s) := by
  rw [runUntil_eq, hfault]
  exact (if_neg hpred).trans (if_pos hstop)

/-- A run that nothing stops takes its next turn, and is then the run of the rest. -/
theorem runUntil_cons_of_next {e : EnvTurn} (hfault : s.fault = none) (hpred : ¬pred s = true)
    (hpass : ¬(breakpoints.contains s.pc && !first) = true) (hturn : takeTurn e s = .next t) :
    runUntil pred breakpoints (e :: schedule) first s = runUntil pred breakpoints schedule false t := by
  rw [runUntil_eq, hfault]
  simp only [if_neg hpred, if_neg hpass, hturn]

/-- A breakpoint report means that the run stands at a breakpoint, without a fault. -/
theorem at_breakpoint_of_runUntil {k : Addr} (h : runUntil pred breakpoints schedule first s = (.breakpoint k, t)) :
    t.pc = k ∧ k ∈ breakpoints ∧ t.fault = none := by
  fun_induction runUntil pred breakpoints schedule first s with
  | case1 | case2 | case4 | case6 | case7 => cases h
  | case3 _ _ _ hfault _ hstop =>
    cases h
    simp only [Bool.and_eq_true, List.contains_iff_mem] at hstop
    exact ⟨rfl, hstop.left, hfault⟩
  | case5 _ _ _ _ _ _ _ _ _ ih => exact ih h

/-- A run is the same however it is cut into slices: where the first slice ends the second goes on, and only after an empty first slice is
it still the first time round (70_reset_and_hazards.md R325). -/
theorem runUntil_append {one : List EnvTurn} (two : List EnvTurn) (h : runUntil pred breakpoints one first s = (.sliceEnd, t)) :
    runUntil pred breakpoints (one ++ two) first s = runUntil pred breakpoints two (first && one.isEmpty) t := by
  fun_induction runUntil pred breakpoints one first s with
  | case1 | case2 | case3 | case6 | case7 => cases h
  | case4 =>
    cases h
    simp
  | case5 first s hfault hpred hpass e rest u hturn ih =>
    calc runUntil pred breakpoints (e :: rest ++ two) first s
        = runUntil pred breakpoints (rest ++ two) false u := runUntil_cons_of_next hfault hpred hpass hturn
      _ = runUntil pred breakpoints two (first && (e :: rest).isEmpty) t := by simp [ih h]

end

/-- Settles O57: the equation of a run in each of its four cases; the reports and the slices by induction over the run. -/
theorem breakpointsAndSlices : Obligations.BreakpointsAndSlices := by
  intro pred breakpoints first s
  refine ⟨fun _ _ _ => runUntil_of_fault, fun _ => runUntil_of_pred, fun _ hfault hpred hpc => ?breakpoint,
    fun e _ t hfault hpred hpass hstep => ?turn, fun _ _ _ => at_breakpoint_of_runUntil, fun _ two _ => runUntil_append two⟩
  case breakpoint => exact runUntil_of_breakpoint hfault (by simp [hpred]) (by simp [hpc])
  case turn =>
    refine runUntil_cons_of_next hfault (by simp [hpred]) ?_ ((takeTurn_next_iff e s _).mpr ⟨t, hstep, rfl⟩)
    simpa [imp_iff_not_or, or_comm] using hpass

end Sys2Proof.Proofs
end
